-- ==== Sys2Proof/Word.lean ====
section
/-! DEFINITION. The words of the machine: the stimulus word, the register widths, and the named values of spec/00_scope.md R11. -/

namespace Sys2Proof

/-- A stimulus word `w[15:0]` (30_encoding.md R70). Bit 0 is the least significant bit (00_scope.md R8). -/
abbrev Word := BitVec 16

/-- The contents of a register whose width the build fixes: `pool`, `POOL_W` bits (10_state.md R25), and
`to_count`, `TO_CNT_W` bits (R35). The value carries its width, so that one State serves every build; that the
width is the build's is an invariant (Safety, `State.WidthsMatch`; assumption log 9). -/
structure Sized where
  width : Nat
  bits : BitVec width
  deriving DecidableEq, Repr

/-- The width of `cur_value` (10_state.md R26). -/
abbrev Shown := BitVec 7

/-- The six button lines, bit `i` for button `i` (10_state.md R32). -/
abbrev Lines := BitVec 6

/-- The seven active-low segment lines, a = bit 0 to g = bit 6 (10_state.md R36). -/
abbrev Segments := BitVec 7

/-- One bit per digit, indexed by `Digit` (10_state.md R27, R37). -/
abbrev DigitSet := BitVec 2

/-- The values of `active_digit`: `ONES` = 0, `TENS` = 1 (00_scope.md R11). -/
inductive Digit
  | ones
  | tens
  deriving DecidableEq, Repr

/-- The values of `power_state`: `IDLE` = 0, `DISPLAYING` = 1 (00_scope.md R11, 10_state.md R29). -/
inductive PowerState
  | idle
  | displaying
  deriving DecidableEq, Repr

/-- The values of `clk_full`: `REDUCED` = 0, `FULL` = 1 (00_scope.md R11, 10_state.md R38). -/
inductive ClockRate
  | reduced
  | full
  deriving DecidableEq, Repr

end Sys2Proof
end

