-- ==== Sys2Proof/Config.lean ====
section
/-! DEFINITION. What one build of the block fixes: the parameters of spec/00_scope.md R7 (their default values stand in Machine/Build.lean). -/

namespace Sys2Proof

/-- The six die sizes the device has: every divisor of `draw` is one of them (00_scope.md R9, 10_state.md R39). -/
inductive Die
  | d4
  | d6
  | d8
  | d10
  | d12
  | d20
  deriving DecidableEq, Repr

/-- The parameters of a build, "constant for the life of the block" (70_reset_and_hazards.md R233).
The spec asks that the model take them as arguments (00_scope.md R7); they stand in State, where no step
writes them (assumption log 2). `N_BUTTONS` = 6 and `N_DIGITS` = 2, which R7 calls fixed, are fixed in the
types (log 9), and the parameters no rule reads are left out (log 12). -/
structure Params where
  /-- `POOL_W`, the width of `pool` in bits, at least 24 in a legal build (R7). -/
  poolW : Nat
  /-- `POOL_SEED`, a nonzero `POOL_W`-bit value in a legal build (R7, R233). -/
  poolSeed : Nat
  /-- `TO_CNT_W`, the width of `to_count` in bits (R7). -/
  toCntW : Nat
  /-- `TIMEOUT_TICKS`, from 1 to 2^`TO_CNT_W` − 1 in a legal build (R7). -/
  timeoutTicks : Nat
  /-- `DIE[0..5]`, the die of each button (10_state.md R39). -/
  die : Vector Die 6
  /-- `SEG_TABLE[0..9]`, the active-low pattern of each decimal digit (10_state.md R40). -/
  segTable : Vector Segments 10
  /-- `LEADING_ZERO_BLANK` (41_display.md R135). -/
  leadingZeroBlank : Bool
  /-- `BTN_INIT`, the button lines when the model starts (10_state.md R32). -/
  btnInit : Lines
  deriving DecidableEq, Repr

end Sys2Proof
end

