-- ==== Sys2Proof/Syntax.lean ====
section
/-! DEFINITION. The stimuli: one constructor per row of spec/opcode_table.json (30_encoding.md R72). -/

namespace Sys2Proof

/-- A stimulus with the input values it samples (30_encoding.md R71 to R75). -/
inductive Instr
  /-- ENT_TICK, format E: `smp` is `noise_in`, `v` is `noise_valid` (R73). -/
  | ent (smp v : Bool)
  /-- REF_TICK, format N. -/
  | ref
  /-- TO_TICK, format N. -/
  | tot
  /-- BTN_SERVICE, format N. -/
  | svc
  /-- SET_BTN, format B: the new state of the six lines, bit `i` for button `i` (R74). -/
  | btn (m : Lines)
  /-- RESET, format N. -/
  | rst
  deriving DecidableEq, Repr

end Sys2Proof
end

