-- ==== Sys2Proof/WellFormed.lean ====
section
/-! DEFINITION. The checks on what is given from outside: a stimulus, a stimulus word, a build's parameters. -/

namespace Sys2Proof

/-- Every stimulus is well formed: the operand types are exactly the widths of 30_encoding.md R73 to R75
(1, 1 and 6 bits), every value of them is legal (R73: a word with `v` = 0 and `smp` = 1 "is legal"),
and there is no other constraint on a stimulus. -/
def Instr.wf : Instr → Bool
  | .ent _ _ => true
  | .ref => true
  | .tot => true
  | .svc => true
  | .btn _ => true
  | .rst => true

/-- A stimulus word that is not reserved: a defined opcode and zeros in the must-be-zero bits of its format
(30_encoding.md R71, R75, R76). This is the check on words as masks and matches, the way spec/opcode_table.json
gives the rows; the decoder is written from R77. -/
def Word.wf (w : Word) : Bool :=
  (w &&& 0xFFCF == 0x0001) || (w == 0x0002) || (w == 0x0003) || (w == 0x0004) ||
    (w &&& 0xFC0F == 0x0005) || (w == 0x0006)

/-- `POOL_W` ≥ 24 (00_scope.md R7; 93_implementation_defined.md item 2). -/
def Params.widthLegal (p : Params) : Bool := decide (24 ≤ p.poolW)

/-- `POOL_SEED` is a nonzero `POOL_W`-bit value (00_scope.md R7): "a build with `POOL_SEED` = 0 is outside this
spec" (70_reset_and_hazards.md R233). -/
def Params.seedLegal (p : Params) : Bool := decide (p.poolSeed ≠ 0 ∧ p.poolSeed < 2 ^ p.poolW)

/-- 1 ≤ `TIMEOUT_TICKS` ≤ 2^`TO_CNT_W` − 1 (00_scope.md R7). -/
def Params.timeoutLegal (p : Params) : Bool := decide (1 ≤ p.timeoutTicks ∧ p.timeoutTicks < 2 ^ p.toCntW)

/-- A build the spec describes. -/
def Params.wf (p : Params) : Bool := p.widthLegal && p.seedLegal && p.timeoutLegal

end Sys2Proof
end

