-- ==== Sys2Proof/Decode.lean ====
section
/-! DEFINITION. The decoder, total on every word, and the encoder, from spec/30_encoding.md R70 to R77. -/

namespace Sys2Proof

/-- The opcode field `op` = `w[3:0]` (R71). -/
def opField (w : Word) : BitVec 4 := w.extractLsb' 0 4

/-- The verdict of R77: the stimulus a word spells, or none for a reserved word. -/
def decode (w : Word) : Option Instr :=
  if opField w = 0x1 ∧ w.extractLsb' 6 10 = 0 then some (.ent (w.getLsbD 4) (w.getLsbD 5))
  else if opField w = 0x2 ∧ w.extractLsb' 4 12 = 0 then some .ref
  else if opField w = 0x3 ∧ w.extractLsb' 4 12 = 0 then some .tot
  else if opField w = 0x4 ∧ w.extractLsb' 4 12 = 0 then some .svc
  else if opField w = 0x5 ∧ w.extractLsb' 10 6 = 0 then some (.btn (w.extractLsb' 4 6))
  else if opField w = 0x6 ∧ w.extractLsb' 4 12 = 0 then some .rst
  else none

/-- The opcode of each stimulus (R72). -/
def opcode : Instr → BitVec 4
  | .ent _ _ => 0x1
  | .ref => 0x2
  | .tot => 0x3
  | .svc => 0x4
  | .btn _ => 0x5
  | .rst => 0x6

/-- The word of a stimulus, laid out from the top bit down as the table of R71 lays out formats N, E and B. -/
def encode (i : Instr) : Word :=
  match i with
  | .ent smp v => 0#10 ++ BitVec.ofBool v ++ BitVec.ofBool smp ++ opcode i
  | .ref => 0#12 ++ opcode i
  | .tot => 0#12 ++ opcode i
  | .svc => 0#12 ++ opcode i
  | .btn m => 0#6 ++ m ++ opcode i
  | .rst => 0#12 ++ opcode i

/-- The stimulus word of a table row whose bits are `w`, `nbits` of them, the bits above them 0. -/
def tableWord (nbits w : Nat) : Word := BitVec.ofNat 16 (w % 2 ^ nbits)

/-- The decoder on an instruction numbered as spec/opcode_table.json numbers it. A stimulus is one 16-bit
word ("There is one length", R70), so a longer row is no stimulus (assumption log 15). -/
def decodeTableWord (nbits w : Nat) : Option Instr :=
  if nbits ≤ 16 then decode (tableWord nbits w) else none

end Sys2Proof
end

