-- ==== Sys2Proof/Machine/Build.lean ====
section
/-! DEFINITION. The values of a build's registers, the constants of this hardware and the default values of its parameters (00_scope.md R7, R11; 41_display.md R132). -/

namespace Sys2Proof

/-- The `w`-bit register that holds the value `v`. -/
def Sized.of (w v : Nat) : Sized := ⟨w, BitVec.ofNat w v⟩

/-- The unsigned integer a register holds (00_scope.md R9). -/
def Sized.toNat (r : Sized) : Nat := r.bits.toNat

/-- `POOL_SEED` as the pool holds it (00_scope.md R7). -/
def Params.seed (p : Params) : Sized := .of p.poolW p.poolSeed

/-- `TIMEOUT_TICKS` as the countdown holds it (00_scope.md R7). -/
def Params.ticks (p : Params) : Sized := .of p.toCntW p.timeoutTicks

/-- `BLANK`: all seven active-low segment lines high, every segment dark (00_scope.md R11). -/
def blank : Segments := 0x7F

/-- `DIE` in index order, (4, 6, 8, 10, 12, 20) (10_state.md R39, D7; assumption log 8). -/
def dieDefault : Vector Die 6 := #v[.d4, .d6, .d8, .d10, .d12, .d20]

/-- The default `SEG_TABLE` (41_display.md R132). PRESUMED by the spec from general knowledge (assumption log 6). -/
def segTableDefault : Vector Segments 10 :=
  #v[0x40, 0x79, 0x24, 0x30, 0x19, 0x12, 0x02, 0x78, 0x00, 0x10]

/-- The build the spec's default values describe (00_scope.md R7). DESIGN CHOICE where the spec says OPEN:
`POOL_SEED` (assumption log 3) and `BTN_INIT` (log 4). -/
def Params.default : Params where
  poolW := 32
  poolSeed := 0x12345678
  toCntW := 16
  timeoutTicks := 4000
  die := dieDefault
  segTable := segTableDefault
  leadingZeroBlank := true
  btnInit := 0b000000

/-- The face count of a die (10_state.md R39). -/
def Die.faces : Die → Nat
  | .d4 => 4
  | .d6 => 6
  | .d8 => 8
  | .d10 => 10
  | .d12 => 12
  | .d20 => 20

end Sys2Proof
end

