-- ==== Sys2Proof/Machine/State.lean ====
section
/-! DEFINITION. The state of the block: the registers of spec/10_state.md R23 to R38, and the model's own two fields. -/

namespace Sys2Proof.Machine

/-- The block has no faults: "No operation of the block raises an exception, traps, halts or enters an error
state, and the block records no fault" (60_exceptions.md R200). The type has no constructor, so nobody raises
one; a claim that no fault occurs says no more than R200 does (assumption log 17). -/
inductive Fault
  deriving DecidableEq, Repr

/-- Why the model gives a presented word no meaning. -/
inductive Refusal
  /-- An instruction whose meaning is not written. Raised by exec's rejected arms, of which there are none. Safe. -/
  | notModelled (mnemonic : String)
  /-- `refuse(reserved_stimulus)`: the presented word is reserved (30_encoding.md R76, R77; 60_exceptions.md
  R204, "the only refusal in the model"). Raised by step. Safe: the block itself never sees such a word. -/
  | reservedStimulus
  deriving DecidableEq, Repr

/-- The architectural state. "Nothing else persists between operations" (10_state.md R20): `script` and `params`
are the model's own, the first the environment's next stimuli (assumption log 1), the second the build's
constants (log 2). -/
structure State where
  /-- `ent_valid` (R23): a sample is pending. -/
  entValid : Bool
  /-- `ent_bit` (R24): the pending sample. -/
  entBit : Bool
  /-- `pool` (R25), `POOL_W` bits. -/
  pool : Sized
  /-- `cur_value` (R26). -/
  curValue : Shown
  /-- `show_mask` (R27): which digits are to be lit when driven. -/
  showMask : DigitSet
  /-- `active_digit` (R28): the digit the next REF_TICK drives. -/
  activeDigit : Digit
  /-- `power_state` (R29). -/
  powerState : PowerState
  /-- `btn_armed` (R30): button-edge detection is enabled. -/
  btnArmed : Bool
  /-- `btn_pending` (R31): a detected edge waits for BTN_SERVICE. -/
  btnPending : Bool
  /-- `btn_lines` (R32): the six button lines, 1 = pressed. -/
  btnLines : Lines
  /-- `ref_run` (R33): the display-refresh timer runs. -/
  refRun : Bool
  /-- `to_run` (R34): the roll-timeout countdown runs. -/
  toRun : Bool
  /-- `to_count` (R35), `TO_CNT_W` bits: timebase ticks left before expiry. -/
  toCount : Sized
  /-- `seg_n` (R36): the active-low segment lines. -/
  segN : Segments
  /-- `dig_on` (R37): the digit enables, 1 = enabled. -/
  digOn : DigitSet
  /-- `clk_full` (R38): the clock-rate request. -/
  clkFull : ClockRate
  /-- The model's own: the stimulus words the environment has still to present, the next first (log 1). -/
  script : List Word
  /-- The model's own: the parameters of the build, written by no step (log 2). -/
  params : Params
  deriving DecidableEq, Repr

/-- The state of a build after power-on, which is a RESET (70_reset_and_hazards.md R231): the reset values of
10_state.md section 12, the button lines at `BTN_INIT` (R32), no stimulus waiting. -/
def State.powerOn (p : Params) : State where
  entValid := false
  entBit := false
  pool := p.seed
  curValue := 0
  showMask := 0b00
  activeDigit := .ones
  powerState := .idle
  btnArmed := true
  btnPending := false
  btnLines := p.btnInit
  refRun := false
  toRun := false
  toCount := .of p.toCntW 0
  segN := blank
  digOn := 0b00
  clkFull := .reduced
  script := []
  params := p

/-- The machine right after reset, in the build of the spec's default parameters (assumption logs 3 and 4). -/
def State.reset : State := State.powerOn Params.default

end Sys2Proof.Machine
end

