-- ==== Sys2Proof/Machine/Operands.lean ====
section
/-! DEFINITION. Reading operands: digits of a two-bit set, the decimal digit of a value, the button scan, the table look-ups, the pool's draw. -/

namespace Sys2Proof

/-- The bit number of a digit in `dig_on` and `show_mask`, and its code in `active_digit` (00_scope.md R11). -/
def Digit.index : Digit → Nat
  | .ones => 0
  | .tens => 1

/-- The other digit, `1 - d` (41_display.md R130). -/
def Digit.other : Digit → Digit
  | .ones => .tens
  | .tens => .ones

/-- The code of `power_state` (00_scope.md R11). -/
def PowerState.code : PowerState → BitVec 1
  | .idle => 0
  | .displaying => 1

/-- The code of `clk_full` (00_scope.md R11). -/
def ClockRate.code : ClockRate → BitVec 1
  | .reduced => 0
  | .full => 1

namespace Machine

/-- `v[d]` of a digit set. -/
def getDigit (v : DigitSet) (d : Digit) : Bool := v.getLsbD d.index

/-- `v` with `v[d] <- b`. -/
def setDigit (v : DigitSet) (d : Digit) (b : Bool) : DigitSet :=
  if b then v ||| (1#2 <<< d.index) else v &&& ~~~(1#2 <<< d.index)

/-- `digit_value(v, d)`: `v / 10` for the tens digit and `v mod 10` for the ones digit (41_display.md R131). -/
def digitValue (v : Shown) : Digit → Nat
  | .tens => v.toNat / 10
  | .ones => v.toNat % 10

/-- The least `k` in 0..5 with `m[k]` = 1 (42_input.md R152); none when no line is asserted. -/
def lowestPressed (m : Lines) : Option (Fin 6) :=
  ([0, 1, 2, 3, 4, 5] : List (Fin 6)).find? fun k => m.getLsbD k

/-- The face count of button `k` in this build, `DIE[k]` (42_input.md R153). -/
def buttonFaces (p : Params) (k : Fin 6) : Nat := (p.die[k]).faces

/-- `draw(n)` = (`pool` mod n) + 1, the pool read as unsigned (40_entropy.md R103), for every pool width. -/
def draw (n : Nat) (pool : Sized) : Nat := pool.toNat % n + 1

/-- `SEG_TABLE[k]` in this build, none for a value that is no decimal digit (41_display.md R132, R133). -/
def segPattern (p : Params) (k : Nat) : Option Segments := p.segTable[k]?

/-- The pattern the next refresh lights on the active digit: none when its mask bit is 0 or its value is 10 or
more (41_display.md R130, R133, R135). -/
def litPattern (s : State) : Option Segments :=
  if getDigit s.showMask s.activeDigit then segPattern s.params (digitValue s.curValue s.activeDigit) else none

end Machine

end Sys2Proof
end

