-- ==== Sys2Proof/Machine/Flags.lean ====
section
/-! DEFINITION. How the flags and masks are computed: edge detection, the debiasing filter's decision, the mask of a roll. The block has no condition codes (10_state.md R42). -/

namespace Sys2Proof.Machine

/-- An edge: any change of any line while detection is armed (42_input.md R150). -/
def edgeDetected (armed : Bool) (old new : Lines) : Bool := armed && new != old

/-- `btn_pending` after the lines change: set by a detected edge, never cleared (42_input.md R150). -/
def pendingAfter (armed pending : Bool) (old new : Lines) : Bool :=
  edgeDetected armed old new || pending

/-- The bit an entropy tick emits: the pending sample, when the tick is valid and its sample differs from the
pending one (40_entropy.md R100). -/
def emission (smp v : Bool) (s : State) : Option Bool :=
  if v && s.entValid && smp != s.entBit then some s.entBit else none

/-- `show_mask` of a roll of `v`: {TENS, ONES} = {v ≥ 10 or not LEADING_ZERO_BLANK, 1} (42_input.md R151, 41_display.md R135). -/
def rollMask (leadingZeroBlank : Bool) (v : Nat) : DigitSet :=
  BitVec.ofBool (decide (10 ≤ v) || !leadingZeroBlank) ++ 1#1

end Sys2Proof.Machine
end

