-- ==== Sys2Proof/Machine/Ops.lean ====
section
/-! DEFINITION. The named operations on the registers that the meanings are made of, the presenting of stimuli, and the output ports. There is no memory (20_memory.md R50), and no exception is ever taken (60_exceptions.md R200, R210), so there is neither a memory operation nor an exception entry here. -/

namespace Sys2Proof.Machine

/-- The bits of the pool after `mix(b)`: shift right by one, the feedback bit `b ^ pool[0] ^ pool[3]` of the pool
before it moves written into the top (40_entropy.md R102), for every pool width. -/
def mixBits {w : Nat} (b : Bool) (pool : BitVec w) : BitVec w :=
  let fb := b ^^ pool.getLsbD 0 ^^ pool.getLsbD 3
  (pool >>> 1) ||| ((BitVec.ofBool fb).setWidth w <<< (w - 1))

/-- `mix(b)` on the register, which keeps its width (40_entropy.md R102). -/
def mix (b : Bool) (pool : Sized) : Sized := ⟨pool.width, mixBits b pool.bits⟩

/-- Store a sample as pending (40_entropy.md R100). -/
def State.storeSample (smp : Bool) (s : State) : State := { s with entBit := smp, entValid := true }

/-- Clear the pending sample; `ent_bit` keeps its value (40_entropy.md R100, 10_state.md R24). -/
def State.clearSample (s : State) : State := { s with entValid := false }

/-- Fold one debiased bit into `pool` (40_entropy.md R102). -/
def State.mixPool (b : Bool) (s : State) : State := { s with pool := mix b s.pool }

/-- `setDigitEnable(d, on)`: write one digit's enable (10_state.md R37). -/
def State.enableDigit (d : Digit) (on : Bool) (s : State) : State := { s with digOn := setDigit s.digOn d on }

/-- `writeSegmentPattern(bits)` (10_state.md R36). -/
def State.writeSegments (bits : Segments) (s : State) : State := { s with segN := bits }

/-- Name the digit the next refresh drives (10_state.md R28). -/
def State.setActive (d : Digit) (s : State) : State := { s with activeDigit := d }

/-- `armButtonInterrupt()` or `disarmButtonInterrupt()` (10_state.md R30). -/
def State.setArmed (b : Bool) (s : State) : State := { s with btnArmed := b }

/-- Write the pending edge flag (10_state.md R31). -/
def State.setPending (b : Bool) (s : State) : State := { s with btnPending := b }

/-- The environment's write of the button lines (10_state.md R32). -/
def State.setLines (m : Lines) (s : State) : State := { s with btnLines := m }

/-- `setClockRate(rate)` (10_state.md R38). -/
def State.setClock (r : ClockRate) (s : State) : State := { s with clkFull := r }

/-- Write `cur_value` and `show_mask` of a rolled value together (42_input.md R156). -/
def State.publish (v : Nat) (s : State) : State :=
  { s with curValue := BitVec.ofNat 7 v, showMask := rollMask s.params.leadingZeroBlank v }

/-- `start_countdown()`: load the counter and run it, whatever its state (43_power.md R174). -/
def State.startCountdown (s : State) : State := { s with toCount := s.params.ticks, toRun := true }

/-- `startDisplayRefreshTimer()` (10_state.md R33). -/
def State.startRefresh (s : State) : State := { s with refRun := true }

/-- Write `power_state` (10_state.md R29). -/
def State.setPower (p : PowerState) (s : State) : State := { s with powerState := p }

/-- Write `to_count` (10_state.md R35). -/
def State.setCount (c : Sized) (s : State) : State := { s with toCount := c }

/-- The stimulus word presented next, if any (assumption log 1). -/
def State.presented (s : State) : Option Word := s.script.head?

/-- The presented word is taken from the script. -/
def State.advance (s : State) : State := { s with script := s.script.tail }

/-- Present a word before every other waiting word. -/
def State.present (w : Word) (s : State) : State := { s with script := w :: s.script }

/-- The output ports of 10_state.md R41. -/
structure Outputs where
  /-- `seg_n[6:0]`. -/
  segN : Segments
  /-- `dig_on[1:0]`. -/
  digOn : DigitSet
  /-- `clk_full`. -/
  clkFull : BitVec 1
  deriving DecidableEq, Repr

/-- What the environment observes (10_state.md R41; 60_exceptions.md R217: the registers "are not observable
except through its outputs"). -/
def State.outputs (s : State) : Outputs := ⟨s.segN, s.digOn, s.clkFull.code⟩

end Sys2Proof.Machine
end

