-- ==== Sys2Proof/Machine/Display.lean ====
section
/-! DEFINITION. DisplayMultiplexer: REF_TICK (spec/41_display.md), and the phases of one refresh (70_reset_and_hazards.md R240). -/

namespace Sys2Proof.Machine

/-- First step of a refresh: blank the previously active digit's enable line (41_display.md R130). -/
def refBlank (s : State) : State := s.enableDigit s.activeDigit.other false

/-- Second step: the driven digit's pattern, or `BLANK` for a dark digit, on the segment lines. -/
def refSegments (s : State) : State := s.writeSegments ((litPattern s).getD blank)

/-- Third step: the driven digit's enable, on for a lit digit and off for a dark one. -/
def refEnable (s : State) : State := s.enableDigit s.activeDigit (litPattern s).isSome

/-- Last step: flip `active_digit` for next time. -/
def refFlip (s : State) : State := s.setActive s.activeDigit.other

/-- The state after REF_TICK: nothing while the refresh timer is stopped (R136), else the four steps of R130 in
the source's order. -/
def refTick (s : State) : State :=
  if s.refRun = false then s else refFlip (refEnable (refSegments (refBlank s)))

/-- The states a refresh passes through when its steps are taken one at a time, the last the state after it: the
order 70_reset_and_hazards.md R240 asks of a cycle-level implementation. No step of the model stops at one of
them (assumption log 16). -/
def refPhases (s : State) : List State :=
  if s.refRun = false then [s]
  else [refBlank s, refSegments (refBlank s), refEnable (refSegments (refBlank s)),
    refFlip (refEnable (refSegments (refBlank s)))]

/-- REF_TICK (41_display.md R130). -/
def execRef (s : State) : Host.Outcome State Fault Refusal := .next (refTick s)

end Sys2Proof.Machine
end

