-- ==== Sys2Proof/Machine/Entropy.lean ====
section
/-! DEFINITION. EntropyCollector: ENT_TICK (spec/40_entropy.md). -/

namespace Sys2Proof.Machine

/-- The state after ENT_TICK: the two-sample (von Neumann) debiasing rule (40_entropy.md R100); an invalid
sample is "no input" and changes nothing (R101). -/
def entTick (smp v : Bool) (s : State) : State :=
  if v = false then s
  else if s.entValid = false then s.storeSample smp
  else if smp = s.entBit then s.clearSample
  else (s.mixPool s.entBit).clearSample

/-- ENT_TICK (40_entropy.md R100). -/
def execEnt (smp v : Bool) (s : State) : Host.Outcome State Fault Refusal := .next (entTick smp v s)

end Sys2Proof.Machine
end

