-- ==== Sys2Proof/Machine/Power.lean ====
section
/-! DEFINITION. PowerStateMachine: TO_TICK and expiry (spec/43_power.md). -/

namespace Sys2Proof.Machine

/-- `expire()`: blank the display, stop both timers, re-arm detection with no pending edge, request the reduced
clock and return to `IDLE` (43_power.md R173). -/
def State.expire (s : State) : State :=
  { s with
    digOn := 0b00
    segN := blank
    refRun := false
    toRun := false
    toCount := .of s.params.toCntW 0
    btnPending := false
    btnArmed := true
    clkFull := .reduced
    powerState := .idle }

/-- `to_count` after a tick: one less, never below 0 (43_power.md R172). -/
def countAfter (c : Sized) : Sized := if c.toNat > 0 then ⟨c.width, c.bits - 1⟩ else c

/-- The state after TO_TICK (43_power.md R172): the test for zero reads the value just assigned. -/
def toTick (s : State) : State :=
  if s.toRun = false then s
  else if (countAfter s.toCount).toNat = 0 then (s.setCount (countAfter s.toCount)).expire
  else s.setCount (countAfter s.toCount)

/-- TO_TICK (43_power.md R172). -/
def execTot (s : State) : Host.Outcome State Fault Refusal := .next (toTick s)

end Sys2Proof.Machine
end

