-- ==== Sys2Proof/Machine/Input.lean ====
section
/-! DEFINITION. InputDispatcher: SET_BTN and BTN_SERVICE (spec/42_input.md). -/

namespace Sys2Proof.Machine

/-- The state after SET_BTN: a change while armed sets the pending flag; the lines are copied (42_input.md R150). -/
def setBtn (m : Lines) (s : State) : State :=
  (s.setPending (pendingAfter s.btnArmed s.btnPending s.btnLines m)).setLines m

/-- The roll of button `k`: from `setClockRate(full)` to `DISPLAYING`, in the order of 42_input.md R151. -/
def roll (k : Fin 6) (s : State) : State :=
  let s := s.setClock .full
  let s := s.publish (draw (buttonFaces s.params k) s.pool)
  let s := s.startCountdown
  let s := s.startRefresh
  s.setPower .displaying

/-- The state after BTN_SERVICE (42_input.md R151): disarm and clear the pending edge before the lines are read
(70_reset_and_hazards.md R242); a service with no line asserted undoes the disarm (R154). -/
def service (s : State) : State :=
  if s.btnPending = false then s
  else
    let armed0 := s.btnArmed
    let s := (s.setArmed false).setPending false
    match lowestPressed s.btnLines with
    | none => s.setArmed armed0
    | some k => roll k s

/-- SET_BTN (42_input.md R150). -/
def execBtn (m : Lines) (s : State) : Host.Outcome State Fault Refusal := .next (setBtn m s)

/-- BTN_SERVICE (42_input.md R151). -/
def execSvc (s : State) : Host.Outcome State Fault Refusal := .next (service s)

end Sys2Proof.Machine
end

