-- ==== Sys2Proof/Machine/Reset.lean ====
section
/-! DEFINITION. RESET and the making of a build (spec/70_reset_and_hazards.md). -/

namespace Sys2Proof.Machine

/-- The state after RESET: every register but `btn_lines` takes its reset value (70_reset_and_hazards.md R230). -/
def resetRegisters (s : State) : State :=
  { s with
    entValid := false
    entBit := false
    pool := s.params.seed
    curValue := 0
    showMask := 0b00
    activeDigit := .ones
    powerState := .idle
    btnArmed := true
    btnPending := false
    refRun := false
    toRun := false
    toCount := .of s.params.toCntW 0
    segN := blank
    digOn := 0b00
    clkFull := .reduced }

/-- RESET (70_reset_and_hazards.md R230). -/
def execRst (s : State) : Host.Outcome State Fault Refusal := .next (resetRegisters s)

/-- A build with its first RESET done, or none for parameters outside the spec (R233; 93_implementation_defined.md
item 3: refuse; assumption log 13). -/
def State.build (p : Params) : Option State := if p.wf then some (State.powerOn p) else none

end Sys2Proof.Machine
end

