-- ==== Sys2Proof/Machine/Dispatch.lean ====
section
/-! DEFINITION. One arm per stimulus: "Each stimulus causes exactly one operation" (60_exceptions.md R206). -/

namespace Sys2Proof.Machine

def exec (i : Instr) (s : State) : Host.Outcome State Fault Refusal :=
  match i with
  | .ent smp v => Sys2Proof.Machine.execEnt smp v s
  | .ref => Sys2Proof.Machine.execRef s
  | .tot => Sys2Proof.Machine.execTot s
  | .svc => Sys2Proof.Machine.execSvc s
  | .btn m => Sys2Proof.Machine.execBtn m s
  | .rst => Sys2Proof.Machine.execRst s

end Sys2Proof.Machine
end

