-- ==== Sys2Proof/Machine/Step.lean ====
section
/-! DEFINITION. One step: the presented stimulus is taken, decoded and run. -/

namespace Sys2Proof.Machine

/-- One step. The environment presents the next word of the script; a reserved word is refused
(30_encoding.md R77) and any other runs as one atomic operation (60_exceptions.md R206). With no word waiting
the block does nothing, as the source's "idle loop, which does nothing" (assumption log 1). -/
def step (s : State) : Host.Outcome State Fault Refusal :=
  match s.presented with
  | none => .next s
  | some w =>
    match decode w with
    | none => .refused .reservedStimulus
    | some i => exec i s.advance

/-- The state with the table's word presented next (assumption logs 1 and 15). -/
def State.withFetchWord (s : State) (nbits w : Nat) : State := s.present (tableWord nbits w)

end Sys2Proof.Machine
end

