-- ==== Sys2Proof/Machine/Script.lean ====
section
/-! DEFINITION. Scripts: sequences of stimuli as spec/30_encoding.md R78 to R80 and spec/60_exceptions.md R205, R208 describe them. Nothing here changes what a stimulus does. -/

namespace Sys2Proof.Machine

/-- The event source of a stimulus is enabled (60_exceptions.md R205; 30_encoding.md R80). -/
def enabled (s : State) : Instr → Bool
  | .ent _ _ => true
  | .ref => s.refRun
  | .tot => s.toRun
  | .svc => s.btnPending
  | .btn _ => true
  | .rst => true

/-- The state with exactly these stimuli waiting, in this order. -/
def State.withScript (is : List Instr) (s : State) : State := { s with script := is.map encode }

/-- Run a script from a state, one step for each of its lines (R78: "executed in order"). -/
def runScript (is : List Instr) (s : State) : Host.Outcome State Fault Refusal :=
  Host.Core.run Sys2Proof.core is.length (s.withScript is)

/-- A script is physically realisable: each stimulus is presented while its source is enabled (R80). -/
def realisable : List Instr → State → Bool
  | [], _ => true
  | i :: is, s =>
    enabled s i &&
      match exec i s with
      | .next t => realisable is t
      | .fault _ => false
      | .refused _ => false

/-- The pseudo-stimulus `press <i>`: `btn <1 << i>` then `svc` (R79). -/
def press (i : Fin 6) : List Instr := [.btn (1#6 <<< i.val), .svc]

/-- The pseudo-stimulus `release` (R79). -/
def release : List Instr := [.btn 0b000000]

/-- The pseudo-stimulus `pair <a> <b>`: two valid samples (R79). -/
def pair (a b : Bool) : List Instr := [.ent a true, .ent b true]

/-- The pseudo-stimulus `wait <n>`: `tot` n times (R79). -/
def wait (n : Nat) : List Instr := List.replicate n .tot

/-- The pseudo-stimulus `frame`: both digit phases of one refresh cycle (R79). -/
def frame : List Instr := [.ref, .ref]

/-- The events an implementation finds due in one cycle (60_exceptions.md R208). -/
structure Due where
  rst : Bool
  svc : Bool
  tot : Bool
  /-- An entropy tick with its sample and the sample's validity. -/
  ent : Option (Bool × Bool)
  ref : Bool
  deriving DecidableEq, Repr

/-- The one-at-a-time order in which they are served, highest priority first: RESET, BTN_SERVICE, TO_TICK,
ENT_TICK, REF_TICK (R208). The model itself admits every order (R207; assumption log 11). -/
def Due.serve (d : Due) : List Instr :=
  (if d.rst then [.rst] else []) ++ (if d.svc then [.svc] else []) ++ (if d.tot then [.tot] else []) ++
    (match d.ent with
      | some (smp, v) => [.ent smp v]
      | none => []) ++ (if d.ref then [.ref] else [])

/-! ### Script text (30_encoding.md R78, R79). A line is a list of characters. -/

/-- The text before a comment: "`;` starts a comment to the end of the line" (R78). -/
def beforeComment (line : List Char) : List Char := line.takeWhile (· != ';')

/-- The words of a line, separated by spaces or tabs; `word` is the word being read (assumption log 14). -/
def wordsFrom (word : List Char) : List Char → List (List Char)
  | [] => if word.isEmpty then [] else [word]
  | c :: cs =>
    if c == ' ' || c == '\t' then
      if word.isEmpty then wordsFrom [] cs else word :: wordsFrom [] cs
    else wordsFrom (word ++ [c]) cs

/-- The value of a decimal digit. -/
def decimalDigit (c : Char) : Option Nat :=
  if '0'.toNat ≤ c.toNat ∧ c.toNat ≤ '9'.toNat then some (c.toNat - '0'.toNat) else none

/-- The number that decimal digits write, after `acc`. -/
def decimalFrom (acc : Nat) : List Char → Option Nat
  | [] => some acc
  | c :: cs =>
    match decimalDigit c with
    | none => none
    | some d => decimalFrom (10 * acc + d) cs

/-- A decimal number of at least one digit. -/
def parseDecimal (cs : List Char) : Option Nat := if cs.isEmpty then none else decimalFrom 0 cs

/-- The number that binary digits write, after `acc`. -/
def binaryFrom (acc : Nat) : List Char → Option Nat
  | [] => some acc
  | c :: cs =>
    if c == '0' then binaryFrom (2 * acc) cs else if c == '1' then binaryFrom (2 * acc + 1) cs else none

/-- The operand of `btn`: `0b` and six binary digits, button 5 first, or decimal 0 to 63 (R78). -/
def parseMask (cs : List Char) : Option Lines :=
  match cs with
  | '0' :: 'b' :: ds => if ds.length = 6 then (binaryFrom 0 ds).map (BitVec.ofNat 6) else none
  | _ =>
    match parseDecimal cs with
    | none => none
    | some n => if n < 64 then some (BitVec.ofNat 6 n) else none

/-- The operand of `ent`: `0`, `1` or `none` (R78), as sample and validity. -/
def parseSample (cs : List Char) : Option (Bool × Bool) :=
  if cs = ['0'] then some (false, true)
  else if cs = ['1'] then some (true, true)
  else if cs = ['n', 'o', 'n', 'e'] then some (false, false)
  else none

/-- The operand of `press`, a button index 0 to 5. DESIGN CHOICE: R79 names no notation for it, and the model reads
decimal only, not the `0b` form R78 gives `btn` (assumption log 14). -/
def parseButton (cs : List Char) : Option (Fin 6) :=
  match parseDecimal cs with
  | none => none
  | some n => if h : n < 6 then some ⟨n, h⟩ else none

/-- The stimuli of a line's words: a stimulus of R78, a pseudo-stimulus of R79, or an empty line; none for any
other line. DESIGN CHOICE: R79 names no notation for the number of `wait` and no bound on it; the model reads it in
decimal only, and `wait 0` spells no stimulus (assumption log 14). -/
def assembleWords : List (List Char) → Option (List Instr)
  | [] => some []
  | [['r', 'e', 'f']] => some [.ref]
  | [['t', 'o', 't']] => some [.tot]
  | [['s', 'v', 'c']] => some [.svc]
  | [['r', 's', 't']] => some [.rst]
  | [['r', 'e', 'l', 'e', 'a', 's', 'e']] => some release
  | [['f', 'r', 'a', 'm', 'e']] => some frame
  | [['e', 'n', 't'], a] => (parseSample a).map fun x => [.ent x.1 x.2]
  | [['b', 't', 'n'], m] => (parseMask m).map fun m => [.btn m]
  | [['p', 'r', 'e', 's', 's'], i] => (parseButton i).map press
  | [['w', 'a', 'i', 't'], n] => (parseDecimal n).map wait
  | [['p', 'a', 'i', 'r'], a, b] =>
    match parseSample a, parseSample b with
    | some x, some y => some [.ent x.1 x.2, .ent y.1 y.2]
    | _, _ => none
  | _ => none

/-- The stimuli one line of a script spells. -/
def assembleLine (line : List Char) : Option (List Instr) := assembleWords (wordsFrom [] (beforeComment line))

/-- The stimuli of a whole script, its lines in order; none if a line spells nothing legal (assumption log 14). -/
def assemble : List (List Char) → Option (List Instr)
  | [] => some []
  | line :: lines =>
    match assembleLine line, assemble lines with
    | some is, some js => some (is ++ js)
    | _, _ => none

/-- A binary digit. -/
def bitChar (b : Bool) : Char := if b then '1' else '0'

/-- The line a disassembler prints: `v` = 0 words as `ent none` whatever `smp` is (R78), button masks in
binary (assumption log 14). -/
def disassemble : Instr → List Char
  | .ent smp true => ['e', 'n', 't', ' ', bitChar smp]
  | .ent _ false => ['e', 'n', 't', ' ', 'n', 'o', 'n', 'e']
  | .ref => ['r', 'e', 'f']
  | .tot => ['t', 'o', 't']
  | .svc => ['s', 'v', 'c']
  | .btn m =>
    ['b', 't', 'n', ' ', '0', 'b', bitChar (m.getLsbD 5), bitChar (m.getLsbD 4), bitChar (m.getLsbD 3),
      bitChar (m.getLsbD 2), bitChar (m.getLsbD 1), bitChar (m.getLsbD 0)]
  | .rst => ['r', 's', 't']

end Sys2Proof.Machine
end

