-- ==== Sys2Proof/Safety.lean ====
section
/-! DEFINITION. What a state of a legal run looks like (10_state.md section 13, INV1 to INV5) and who may write which register (10_state.md R44). -/

namespace Sys2Proof.Machine

/-- INV1: a pending edge implies detection armed. -/
abbrev State.Inv1 (s : State) : Prop := s.btnPending = true → s.btnArmed = true

/-- INV2: `IDLE` if and only if armed, if and only if each timer is stopped, if and only if the clock is reduced. -/
abbrev State.Inv2 (s : State) : Prop :=
  (s.powerState = .idle ↔ s.btnArmed = true) ∧ (s.powerState = .idle ↔ s.refRun = false) ∧
    (s.powerState = .idle ↔ s.toRun = false) ∧ (s.powerState = .idle ↔ s.clkFull = .reduced)

/-- The display is dark: both enables off and every segment line released. -/
abbrev State.Dark (s : State) : Prop := s.digOn = 0b00 ∧ s.segN = blank

/-- INV3: `IDLE` implies a dark display. -/
abbrev State.Inv3 (s : State) : Prop := s.powerState = .idle → s.Dark

/-- At most one bit of a digit set is 1. -/
abbrev AtMostOneDigit (v : DigitSet) : Prop := ¬(getDigit v .ones = true ∧ getDigit v .tens = true)

/-- INV4: at most one digit is enabled. -/
abbrev State.Inv4 (s : State) : Prop := AtMostOneDigit s.digOn

/-- INV5: while `DISPLAYING`, 1 ≤ `cur_value` ≤ 20, the ones digit is shown and 1 ≤ `to_count` ≤ `TIMEOUT_TICKS`. -/
abbrev State.Inv5 (s : State) : Prop :=
  s.powerState = .displaying →
    1 ≤ s.curValue.toNat ∧ s.curValue.toNat ≤ 20 ∧ getDigit s.showMask .ones = true ∧
      1 ≤ s.toCount.toNat ∧ s.toCount.toNat ≤ s.params.timeoutTicks

/-- The two registers whose width the build fixes have that width: `pool` is `POOL_W` bits (10_state.md R25) and
`to_count` is `TO_CNT_W` bits (R35). -/
abbrev State.WidthsMatch (s : State) : Prop :=
  s.pool.width = s.params.poolW ∧ s.toCount.width = s.params.toCntW

/-- The invariant of 10_state.md section 13 (INV6 follows from INV1 and INV2), for a legal build and with the
registers at the build's widths. -/
abbrev State.Inv (s : State) : Prop :=
  s.params.wf = true ∧ s.WidthsMatch ∧ s.Inv1 ∧ s.Inv2 ∧ s.Inv3 ∧ s.Inv4 ∧ s.Inv5

/-- The shown pair comes from one roll: while `DISPLAYING`, `show_mask` is the mask of `cur_value`
(20_memory.md R54, R59; 42_input.md R156). -/
abbrev State.Coherent (s : State) : Prop :=
  s.powerState = .displaying → s.showMask = rollMask s.params.leadingZeroBlank s.curValue.toNat

/-- The digit the next refresh drives is off until then, so the segment lines change while no digit is enabled
(70_reset_and_hazards.md R240). -/
abbrev State.DrivenDigitOff (s : State) : Prop := getDigit s.digOn s.activeDigit = false

/-- A roll happens in this service: an edge is pending and a line is asserted (42_input.md R151). -/
abbrev rolls (i : Instr) (s : State) : Prop := i = .svc ∧ s.btnPending = true ∧ s.btnLines ≠ 0

/-- This tick brings the running countdown to zero (43_power.md R172). -/
abbrev expires (i : Instr) (s : State) : Prop := i = .tot ∧ s.toRun = true ∧ s.toCount.toNat ≤ 1

/-- The names of the registers (10_state.md R23 to R38). -/
inductive Reg
  | entValid | entBit | pool | curValue | showMask | activeDigit | powerState | btnArmed | btnPending
  | btnLines | refRun | toRun | toCount | segN | digOn | clkFull
  deriving DecidableEq, Repr

/-- Two states hold the same value in a register. -/
def sameReg (s t : State) : Reg → Prop
  | .entValid => s.entValid = t.entValid
  | .entBit => s.entBit = t.entBit
  | .pool => s.pool = t.pool
  | .curValue => s.curValue = t.curValue
  | .showMask => s.showMask = t.showMask
  | .activeDigit => s.activeDigit = t.activeDigit
  | .powerState => s.powerState = t.powerState
  | .btnArmed => s.btnArmed = t.btnArmed
  | .btnPending => s.btnPending = t.btnPending
  | .btnLines => s.btnLines = t.btnLines
  | .refRun => s.refRun = t.refRun
  | .toRun => s.toRun = t.toRun
  | .toCount => s.toCount = t.toCount
  | .segN => s.segN = t.segN
  | .digOn => s.digOn = t.digOn
  | .clkFull => s.clkFull = t.clkFull

/-- The registers an operation may write: the cells "writes" of 10_state.md R44. -/
def mayWrite : Instr → List Reg
  | .ent _ _ => [.entValid, .entBit, .pool]
  | .ref => [.activeDigit, .segN, .digOn]
  | .tot =>
    [.powerState, .btnArmed, .btnPending, .refRun, .toRun, .toCount, .segN, .digOn, .clkFull]
  | .btn _ => [.btnPending, .btnLines]
  | .svc =>
    [.curValue, .showMask, .powerState, .btnArmed, .btnPending, .refRun, .toRun, .toCount, .clkFull]
  | .rst =>
    [.entValid, .entBit, .pool, .curValue, .showMask, .activeDigit, .powerState, .btnArmed, .btnPending,
      .refRun, .toRun, .toCount, .segN, .digOn, .clkFull]

/-- The registers an operation reads and does not write: the cells "reads" of 10_state.md R44. -/
def onlyReads : Instr → List Reg
  | .ent _ _ => []
  | .ref => [.curValue, .showMask, .refRun]
  | .tot => []
  | .btn _ => [.btnArmed]
  | .svc => [.pool, .btnLines]
  | .rst => []

end Sys2Proof.Machine
end

