-- ==== Sys2Proof/Certificates/Slice0/Obligations.lean ====
section
/-! DEFINITION. The statements for the provers. Each docstring names the rule of spec/ it formalises; OBLIGATIONS.json lists them. -/

open Sys2Proof Sys2Proof.Machine

/-! ### Decoding and stepping -/

/-- The words 30_encoding.md R78 and 95_test_vectors.md V-DEC-1 to V-DEC-12 write out decode to the stimuli they name,
and the reserved ones of V-DEC-8 to V-DEC-12 decode to none. -/
def Obligations.WrittenOutWordsDecode : Prop :=
  decode 0x0021 = some (.ent false true) ∧ decode 0x0031 = some (.ent true true) ∧
  decode 0x0001 = some (.ent false false) ∧ decode 0x0011 = some (.ent true false) ∧
  decode 0x0002 = some .ref ∧ decode 0x0003 = some .tot ∧ decode 0x0004 = some .svc ∧
  decode 0x0005 = some (.btn 0b000000) ∧ decode 0x0025 = some (.btn 0b000010) ∧
  decode 0x03F5 = some (.btn 0b111111) ∧ decode 0x0006 = some .rst ∧
  decode 0x0000 = none ∧ decode 0x0007 = none ∧ decode 0x000F = none ∧ decode 0xFFFF = none ∧
  decode 0x0041 = none ∧ decode 0x8001 = none ∧ decode 0x0012 = none ∧ decode 0x0106 = none ∧
  decode 0x0405 = none

/-- Decode and encode agree: a word decodes to a stimulus exactly when it is that stimulus's encoding, for every
word and every value of every operand. -/
def Obligations.DecodeEncodeAgree : Prop :=
  ∀ (w : Word) (i : Instr), decode w = some i ↔ encode i = w

/-- 30_encoding.md R77 with R76: decoding is total; a word with a defined opcode and zeros in its must-be-zero bits
decodes to that opcode's stimulus with its operand bits, every other word is reserved, and presenting a reserved
word is refused. -/
def Obligations.DecodingIsTotalAndReservedIsRefused : Prop :=
  ∀ w : Word,
    (opField w = 0x1 ∧ w.extractLsb' 6 10 = 0 → decode w = some (.ent (w.getLsbD 4) (w.getLsbD 5))) ∧
    (opField w = 0x2 ∧ w.extractLsb' 4 12 = 0 → decode w = some .ref) ∧
    (opField w = 0x3 ∧ w.extractLsb' 4 12 = 0 → decode w = some .tot) ∧
    (opField w = 0x4 ∧ w.extractLsb' 4 12 = 0 → decode w = some .svc) ∧
    (opField w = 0x5 ∧ w.extractLsb' 10 6 = 0 → decode w = some (.btn (w.extractLsb' 4 6))) ∧
    (opField w = 0x6 ∧ w.extractLsb' 4 12 = 0 → decode w = some .rst) ∧
    (decode w = none ↔
      opField w = 0x0 ∨ 0x7 ≤ (opField w).toNat ∨
      (opField w = 0x1 ∧ w.extractLsb' 6 10 ≠ 0) ∨
      ((opField w = 0x2 ∨ opField w = 0x3 ∨ opField w = 0x4 ∨ opField w = 0x6) ∧ w.extractLsb' 4 12 ≠ 0) ∨
      (opField w = 0x5 ∧ w.extractLsb' 10 6 ≠ 0)) ∧
    (decode w = none → (∀ i : Instr, encode i ≠ w) ∧
      ∀ (s : State) (rest : List Word), s.script = w :: rest → step s = .refused .reservedStimulus)

/-- The masks and matches of spec/opcode_table.json pick out exactly the words the decoder of R77 accepts. -/
def Obligations.OpcodeTableMatchesDecoder : Prop :=
  ∀ w : Word, Word.wf w = true ↔ ∃ i : Instr, decode w = some i

/-- A step runs the decoded stimulus, taken off the script, as one operation that leaves the waiting words alone
(60_exceptions.md R206). With no word waiting the step changes nothing: the model's choice (assumption log 1). -/
def Obligations.StepRunsPresentedStimulus : Prop :=
  (∀ (s : State) (w : Word) (rest : List Word) (i : Instr), s.script = w :: rest → decode w = some i →
    step s = exec i { s with script := rest } ∧
      ∀ t, exec i { s with script := rest } = .next t → t.script = rest) ∧
  (∀ s : State, s.script = [] → step s = .next s)

/-- 60_exceptions.md R204: a reserved stimulus word is the only refusal in the model, and it is no fault. -/
def Obligations.ReservedWordIsTheOnlyRefusal : Prop :=
  ∀ s : State, (∀ f : Fault, step s ≠ .fault f) ∧
    ∀ r : Refusal, step s = .refused r ↔
      r = .reservedStimulus ∧ ∃ (w : Word) (rest : List Word), s.script = w :: rest ∧ decode w = none

/-- 60_exceptions.md R200: no operation raises an exception, traps, halts or enters an error state: every stimulus
completes from every state. -/
def Obligations.EveryStimulusCompletes : Prop :=
  ∀ (i : Instr) (s : State), ∃ t, exec i s = .next t ∧ t.script = s.script ∧ t.params = s.params

/-! ### EntropyCollector and RandomPool -/

/-- 40_entropy.md R100: ENT_TICK's encoding, its result in every case, and its example. -/
def Obligations.EntTickDebiases : Prop :=
  ∀ (s : State) (smp v : Bool),
    encode (.ent smp v) = 0#10 ++ BitVec.ofBool v ++ BitVec.ofBool smp ++ 0x1#4 ∧
    (v = false → exec (.ent smp v) s = .next s) ∧
    (v = true → s.entValid = false →
      exec (.ent smp v) s = .next { s with entBit := smp, entValid := true }) ∧
    (v = true → s.entValid = true → smp = s.entBit →
      exec (.ent smp v) s = .next { s with entValid := false }) ∧
    (v = true → s.entValid = true → smp ≠ s.entBit →
      exec (.ent smp v) s = .next { s with entValid := false, pool := mix s.entBit s.pool }) ∧
    (s.pool = .of 32 0x12345678 → s.entValid = false → ∃ t u,
      exec (.ent false true) s = .next t ∧ emission true true t = some false ∧
      exec (.ent true true) t = .next u ∧ u.pool = .of 32 0x891A2B3C ∧ u.entValid = false)

/-- 40_entropy.md R101: an entropy tick whose sample is not valid changes no state and emits nothing. -/
def Obligations.InvalidSampleChangesNothing : Prop :=
  ∀ (s : State) (smp : Bool), exec (.ent smp false) s = .next s ∧ emission smp false s = none

/-- 40_entropy.md R105: the emission table, for a pair of valid samples with any stimuli between them but a
valid sample or a RESET, which discards the pending one. -/
def Obligations.EmissionTableOfSamplePairs : Prop :=
  ∀ (s : State) (a b : Bool) (between : List Instr), s.entValid = false →
    (∀ i ∈ between, i ≠ .rst ∧ ∀ x, i ≠ .ent x true) →
    ∃ u t, runScript (.ent a true :: between) s = .next u ∧
      emission b true u = (if a = b then none else some a) ∧
      exec (.ent b true) u = .next t ∧ t.entValid = false ∧
      t.pool = if a = b then s.pool else mix a s.pool

/-- 40_entropy.md R104: ENT_TICK reads and writes no register but its own three, in every power state. -/
def Obligations.EntTickIsIndependent : Prop :=
  ∀ (smp v : Bool) (s t : State), exec (.ent smp v) s = .next t →
    t = { s with entValid := t.entValid, entBit := t.entBit, pool := t.pool } ∧
    ∀ s' : State, s'.entValid = s.entValid → s'.entBit = s.entBit → s'.pool = s.pool →
      exec (.ent smp v) s' = .next { s' with entValid := t.entValid, entBit := t.entBit, pool := t.pool }

/-- 40_entropy.md R102: `mix` shifts every bit one place down and writes the feedback bit into the top, at every
pool width of 24 bits or more, and keeps the width; it is applied on emissions only. -/
def Obligations.MixShiftsInTheFeedbackBit : Prop :=
  (∀ (b : Bool) (p : Sized), 24 ≤ p.width →
    (mix b p).width = p.width ∧
    (mix b p).bits.getLsbD (p.width - 1) = (b ^^ p.bits.getLsbD 0 ^^ p.bits.getLsbD 3) ∧
    ∀ k, k + 1 < p.width → (mix b p).bits.getLsbD k = p.bits.getLsbD (k + 1)) ∧
  mix true (.of 32 0x00000001) = .of 32 0x00000000 ∧ mix true (.of 32 0x00000000) = .of 32 0x80000000 ∧
  mix false (.of 32 0x00000000) = .of 32 0x00000000 ∧ mix false (.of 32 0x12345678) = .of 32 0x891A2B3C ∧
  (∀ (i : Instr) (s t : State), i ≠ .rst → exec i s = .next t → t.pool ≠ s.pool →
    ∃ smp v b, i = .ent smp v ∧ emission smp v s = some b ∧ t.pool = mix b s.pool)

/-- 40_entropy.md R106: the pool's owners. RESET seeds it, an emission mixes the emitted bit in whatever the rest of
the state holds, and no other operation changes it. -/
def Obligations.PoolChangesOnlyByMixAndReset : Prop :=
  ∀ (i : Instr) (s t : State), exec i s = .next t →
    (i = .rst → t.pool = .of s.params.poolW s.params.poolSeed) ∧
    (∀ smp v b, i = .ent smp v → emission smp v s = some b → t.pool = mix b s.pool) ∧
    (i ≠ .rst → (∀ smp v, i = .ent smp v → emission smp v s = none) → t.pool = s.pool)

/-- 20_memory.md R57: the entropy registers after a script without RESET are those after its entropy ticks alone,
in their order. -/
def Obligations.EntropyDependsOnEntropyTicksAlone : Prop :=
  ∀ (is : List Instr) (s : State), .rst ∉ is →
    ∃ t u, runScript is s = .next t ∧
      runScript (is.filter fun i => match i with | .ent _ _ => true | _ => false) s = .next u ∧
      t.entValid = u.entValid ∧ t.entBit = u.entBit ∧ t.pool = u.pool

/-- 40_entropy.md R103: `draw` is (pool mod n) + 1, in [1, n] for every die and pool of every width; only
BTN_SERVICE's roll and RESET write the drawn value, and the draw leaves the pool alone. -/
def Obligations.DrawStaysInRange : Prop :=
  (∀ (d : Die) (p : Sized), d.faces ∈ [4, 6, 8, 10, 12, 20] ∧
    draw d.faces p = p.toNat % d.faces + 1 ∧ 1 ≤ draw d.faces p ∧ draw d.faces p ≤ d.faces) ∧
  draw 6 (.of 32 0x12345678) = 1 ∧ draw 10 (.of 32 0x12345678) = 7 ∧
  draw 20 (.of 32 0x12345678) = 17 ∧
  (∀ n w : Nat, draw n (.of w 0) = 1) ∧
  (∀ (i : Instr) (s t : State), exec i s = .next t → t.curValue ≠ s.curValue → i ≠ .rst →
    rolls i s ∧ t.pool = s.pool ∧ ∃ k : Fin 6, t.curValue.toNat = draw (s.params.die[k]).faces s.pool)

/-- 40_entropy.md section 4 (R107, the table): how many of the 2^32 pool values draw each result. -/
def Obligations.DrawCountsPerResult : Prop :=
  ∀ (d : Die) (k : Nat), 1 ≤ k → k ≤ d.faces →
    Nat.count (fun p => draw d.faces (.of 32 p) = k) (2 ^ 32) =
      2 ^ 32 / d.faces + if k ≤ 2 ^ 32 % d.faces then 1 else 0

/-- 40_entropy.md section 4, at every legal pool width: `mix(0)` is a bijection of which all-zero is the only fixed
point, so all-zero is never reached from a nonzero pool by `mix(0)` alone; its low bits satisfy
a(t + POOL_W) = a(t) ^ a(t + 3). -/
def Obligations.MixZeroIsABijection : Prop :=
  ∀ w : Nat, 24 ≤ w →
    Function.Bijective (mixBits false : BitVec w → BitVec w) ∧
    (∀ p : BitVec w, mixBits false p = p ↔ p = 0) ∧
    (∀ (n : Nat) (p : BitVec w), p ≠ 0 → (mixBits false)^[n] p ≠ 0) ∧
    ∀ (n : Nat) (p : BitVec w), ((mixBits false)^[n + w] p).getLsbD 0 =
      (((mixBits false)^[n] p).getLsbD 0 ^^ ((mixBits false)^[n + 3] p).getLsbD 0)

/-! ### DisplayMultiplexer -/

/-- 41_display.md R130: REF_TICK's encoding, its result in every case, and its example; after a roll in a legal run no
digit is enabled until a REF_TICK, whatever other stimuli come first. -/
def Obligations.RefTickDrivesTheActiveDigit : Prop :=
  encode .ref = 0x0002 ∧
  ∀ s : State,
    (s.refRun = false → exec .ref s = .next s) ∧
    (s.refRun = true → getDigit s.showMask s.activeDigit = true →
      digitValue s.curValue s.activeDigit ≤ 9 →
      ∃ pattern, s.params.segTable[digitValue s.curValue s.activeDigit]? = some pattern ∧
        exec .ref s = .next { s with
          segN := pattern
          digOn := if s.activeDigit = .ones then 0b01 else 0b10
          activeDigit := s.activeDigit.other }) ∧
    (s.refRun = true →
      ¬(getDigit s.showMask s.activeDigit = true ∧ digitValue s.curValue s.activeDigit ≤ 9) →
      exec .ref s = .next { s with segN := 0x7F, digOn := 0b00, activeDigit := s.activeDigit.other }) ∧
    (s.params.segTable = segTableDefault → s.refRun = true → s.curValue = 12 → s.showMask = 0b11 →
      s.activeDigit = .tens →
      exec .ref s = .next { s with segN := 0x79, digOn := 0b10, activeDigit := .ones }) ∧
    (∀ is : List Instr, s.Inv → rolls .svc s → .ref ∉ is →
      ∃ t, runScript (.svc :: is) s = .next t ∧ t.digOn = 0b00)

/-- 41_display.md R131: the decomposition into decimal digits, and its idempotence for values 0 to 99; no operation
produces a value above that. -/
def Obligations.DigitsRecomposeTheValue : Prop :=
  (∀ v : Shown, digitValue v .tens = v.toNat / 10 ∧ digitValue v .ones = v.toNat % 10 ∧
    (v.toNat ≤ 99 → v.toNat / 10 * 10 + v.toNat % 10 = v.toNat ∧
      digitValue v .tens ≤ 9 ∧ digitValue v .ones ≤ 9) ∧
    (100 ≤ v.toNat → 10 ≤ digitValue v .tens ∧ digitValue v .tens ≤ 12)) ∧
  (∀ (i : Instr) (s t : State), exec i s = .next t → t.curValue ≠ s.curValue → t.curValue.toNat ≤ 99)

/-- 41_display.md R132 and 10_state.md R40: the default table, pattern by pattern, has no `BLANK` in it. -/
def Obligations.DefaultSegmentTable : Prop :=
  State.reset.params.segTable.toList =
    [0x40, 0x79, 0x24, 0x30, 0x19, 0x12, 0x02, 0x78, 0x00, 0x10] ∧
  blank = 0x7F ∧ blank ∉ State.reset.params.segTable.toList

/-- 41_display.md R133: a digit value of 10 or more is driven dark, never shown; no refresh of a legal run meets one. -/
def Obligations.OutOfRangeDigitIsDark : Prop :=
  (∀ s : State, s.refRun = true → 10 ≤ digitValue s.curValue s.activeDigit →
    ∃ t, exec .ref s = .next t ∧ t.segN = blank ∧ getDigit t.digOn s.activeDigit = false ∧
      getDigit t.digOn s.activeDigit.other = false) ∧
  (∀ s : State, s.Inv → s.refRun = true → digitValue s.curValue s.activeDigit ≤ 9)

/-- 41_display.md R134: at most one digit is enabled after every step that starts so, and after every refresh that
acts, whatever was enabled before it. -/
def Obligations.OneDigitEnabledAtATime : Prop :=
  (∀ s t : State, s.Inv4 → step s = .next t → t.Inv4) ∧
  (∀ s t : State, s.refRun = true → exec .ref s = .next t → t.Inv4)

/-- 41_display.md R135: a digit whose mask bit is 0 is driven dark; a roll writes the mask. -/
def Obligations.ShowMaskBlanksTheLeadingZero : Prop :=
  (∀ s t : State, s.refRun = true → getDigit s.showMask s.activeDigit = false → exec .ref s = .next t →
    t.segN = blank ∧ getDigit t.digOn s.activeDigit = false) ∧
  (∀ s : State, rolls .svc s → ∃ t, exec .svc s = .next t ∧ getDigit t.showMask .ones = true ∧
    (10 ≤ t.curValue.toNat → getDigit t.showMask .tens = true) ∧
    (t.curValue.toNat ≤ 9 → getDigit t.showMask .tens = !s.params.leadingZeroBlank))

/-- 41_display.md R136: a stopped refresh timer changes nothing and, in the states of a legal run, the display is
dark then; the timer is set by a roll, cleared by expiry (and RESET) and written by nothing else; a service leaves the
outputs alone, and after a roll they keep their values until a REF_TICK, expiry or RESET. -/
def Obligations.RefreshActsOnlyWhileRunning : Prop :=
  (∀ s : State, s.refRun = false → exec .ref s = .next s) ∧
  (∀ s : State, s.Inv → s.refRun = false → s.digOn = 0b00 ∧ s.segN = blank) ∧
  (∀ (i : Instr) (s t : State), exec i s = .next t →
    (rolls i s → t.refRun = true) ∧ (expires i s ∨ i = .rst → t.refRun = false) ∧
    (¬rolls i s → ¬expires i s → i ≠ .rst → t.refRun = s.refRun)) ∧
  (∀ (i : Instr) (s t : State), exec i s = .next t → i ≠ .ref → ¬expires i s → i ≠ .rst →
    t.segN = s.segN ∧ t.digOn = s.digOn ∧ t.activeDigit = s.activeDigit)

/-- One full refresh cycle (`frame`, 30_encoding.md R79) drives both digits once: with both digits shown, the ones
digit's pattern is on the lines in one phase and the tens digit's in the other, and the phase of the digits is as
before. -/
def Obligations.FrameShowsBothDigits : Prop :=
  ∀ s : State, s.refRun = true → s.showMask = 0b11 → s.curValue.toNat ≤ 99 →
    ∃ t u, exec .ref s = .next t ∧ exec .ref t = .next u ∧ runScript frame s = .next { u with script := [] } ∧
      u.activeDigit = s.activeDigit ∧
      getDigit t.digOn s.activeDigit = true ∧ getDigit t.digOn s.activeDigit.other = false ∧
      getDigit u.digOn s.activeDigit = false ∧ getDigit u.digOn s.activeDigit.other = true ∧
      some t.segN = segPattern s.params (digitValue s.curValue s.activeDigit) ∧
      some u.segN = segPattern s.params (digitValue s.curValue s.activeDigit.other)

/-- 70_reset_and_hazards.md R240, on the phases of one refresh (assumption log 16): from a state whose driven digit is
off, every phase has at most one digit enabled, the segment lines change only while no digit is enabled, and the last
phase is the state REF_TICK leaves. -/
def Obligations.RefreshPhasesDoNotGhost : Prop :=
  ∀ s : State, s.DrivenDigitOff → s.refRun = true →
    (∀ p ∈ refPhases s, p.Inv4) ∧
    (∃ p₁ p₂ p₃ p₄, refPhases s = [p₁, p₂, p₃, p₄] ∧ p₁.digOn = 0b00 ∧ p₁.segN = s.segN ∧
      p₂.digOn = 0b00 ∧ p₃.segN = p₂.segN ∧ p₄.segN = p₂.segN ∧ p₄.digOn = p₃.digOn ∧
      exec .ref s = .next p₄)

/-- The digit the next refresh drives is off, at power-on and after every step from such a state: the premise of the
phase statement is an invariant (70_reset_and_hazards.md R240). -/
def Obligations.DrivenDigitStaysOff : Prop :=
  (∀ p : Params, (State.powerOn p).DrivenDigitOff) ∧
  ∀ s t : State, s.DrivenDigitOff → step s = .next t → t.DrivenDigitOff

/-! ### InputDispatcher -/

/-- 42_input.md R150: SET_BTN's encoding, its result, and its example. -/
def Obligations.SetBtnDetectsEdgesWhileArmed : Prop :=
  ∀ (m : Lines) (s : State),
    encode (.btn m) = 0x0005 ||| (m.setWidth 16 <<< 4) ∧
    (s.btnArmed = true → m ≠ s.btnLines →
      exec (.btn m) s = .next { s with btnPending := true, btnLines := m }) ∧
    (s.btnArmed = true → m = s.btnLines → exec (.btn m) s = .next s) ∧
    (s.btnArmed = false → exec (.btn m) s = .next { s with btnLines := m })

/-- 10_state.md R31: who sets the pending edge flag, and who clears it. -/
def Obligations.PendingFlagIsSetByArmedEdgesOnly : Prop :=
  ∀ (i : Instr) (s t : State), exec i s = .next t →
    (s.btnPending = false → t.btnPending = true →
      ∃ m, i = .btn m ∧ s.btnArmed = true ∧ m ≠ s.btnLines) ∧
    (∀ m, i = .btn m → s.btnArmed = true → m ≠ s.btnLines → t.btnPending = true) ∧
    (s.btnPending = true → t.btnPending = false → i = .svc ∨ expires i s ∨ i = .rst) ∧
    (i = .svc ∨ expires i s ∨ i = .rst → t.btnPending = false)

/-- 42_input.md R151: BTN_SERVICE's encoding, its result in every case (the pressed line of the lowest index is
button `k`), and its example. -/
def Obligations.ServiceRollsTheLowestPressedButton : Prop :=
  encode .svc = 0x0004 ∧
  ∀ s : State,
    (s.btnPending = false → exec .svc s = .next s) ∧
    (s.btnPending = true → s.btnLines = 0b000000 → exec .svc s = .next { s with btnPending := false }) ∧
    (∀ k : Fin 6, s.btnPending = true → s.btnLines.getLsbD k = true →
      (∀ j : Fin 6, j < k → s.btnLines.getLsbD j = false) →
      exec .svc s = .next { s with
        btnArmed := false
        btnPending := false
        clkFull := .full
        curValue := BitVec.ofNat 7 (s.pool.toNat % (s.params.die[k]).faces + 1)
        showMask := BitVec.ofBool
          (decide (10 ≤ s.pool.toNat % (s.params.die[k]).faces + 1) || !s.params.leadingZeroBlank) ++ 1#1
        toCount := .of s.params.toCntW s.params.timeoutTicks
        toRun := true
        refRun := true
        powerState := .displaying }) ∧
    (s.params = Params.default → s.pool = .of 32 0x12345678 → s.btnPending = true → s.btnLines = 0b000010 →
      ∃ t, exec .svc s = .next t ∧ t.curValue = 1 ∧ t.showMask = 0b01 ∧ t.powerState = .displaying ∧
        t.btnArmed = false ∧ t.clkFull = .full ∧ t.refRun = true ∧ t.toRun = true ∧
        t.toCount = .of 16 4000)

/-- 42_input.md R152, R153 and 10_state.md R39: with this hardware's `DIE`, a roll of the line of least index `k`
draws one of 4, 6, 8, 10, 12, 20 faces by `k`. -/
def Obligations.ButtonIndexNamesTheDie : Prop :=
  State.reset.params.die = dieDefault ∧
  ∀ (s : State) (k : Fin 6), s.params.die = dieDefault → s.btnPending = true →
    s.btnLines.getLsbD k = true → (∀ j : Fin 6, s.btnLines.getLsbD j = true → k ≤ j) →
    ∃ t n, exec .svc s = .next t ∧ [4, 6, 8, 10, 12, 20][k.val]? = some n ∧
      t.curValue.toNat = s.pool.toNat % n + 1

/-- 42_input.md R154: a service with a pending edge and no line asserted writes nothing but the pending flag, so
detection is armed after it exactly if it was before. -/
def Obligations.SpuriousServiceClearsTheFlagOnly : Prop :=
  ∀ s : State, s.btnPending = true → s.btnLines = 0b000000 →
    ∃ t, exec .svc s = .next t ∧ t = { s with btnPending := false } ∧ t.btnArmed = s.btnArmed

/-- 42_input.md R155 with INV6 of 10_state.md: a service that rolls while `DISPLAYING` overwrites the value, reloads the
countdown and stays `DISPLAYING`; in the states of a legal run a service while `DISPLAYING` does nothing. -/
def Obligations.RollWhileDisplayingRestartsButIsUnreachable : Prop :=
  (∀ s : State, rolls .svc s → s.powerState = .displaying → s.refRun = true →
    ∃ t, exec .svc s = .next t ∧ t.powerState = .displaying ∧ t.refRun = true ∧
      t.toCount = s.params.ticks ∧ t.toRun = true ∧
      (∃ k : Fin 6, s.btnLines.getLsbD k = true ∧ (∀ j : Fin 6, j < k → s.btnLines.getLsbD j = false) ∧
        t.curValue.toNat = s.pool.toNat % (s.params.die[k]).faces + 1) ∧
      t.showMask = rollMask s.params.leadingZeroBlank t.curValue.toNat) ∧
  (∀ s : State, s.Inv → s.powerState = .displaying → ¬rolls .svc s ∧ exec .svc s = .next s)

/-- 42_input.md R157 (its first sentence): once disarmed, detection is re-armed by expiry and RESET alone, and while
disarmed no change of the lines sets the pending flag. -/
def Obligations.DebounceHoldsUntilExpiry : Prop :=
  ∀ (i : Instr) (s t : State), s.btnArmed = false → exec i s = .next t →
    (t.btnArmed = true ↔ expires i s ∨ i = .rst) ∧ (s.btnPending = false → t.btnPending = false)

/-- A press from `IDLE` rolls the pressed button's die (95_test_vectors.md L1-5, 30_encoding.md R79): `press k` from a
legal `IDLE` state whose lines differ from the press ends `DISPLAYING` with the value drawn and the countdown loaded and
running. -/
def Obligations.PressRollsTheDie : Prop :=
  ∀ (s : State) (k : Fin 6), s.Inv → s.powerState = .idle → s.btnLines ≠ 1#6 <<< k.val →
    ∃ t, runScript (press k) s = .next t ∧ t.powerState = .displaying ∧
      t.curValue.toNat = s.pool.toNat % (s.params.die[k]).faces + 1 ∧ t.pool = s.pool ∧
      t.toCount.toNat = s.params.timeoutTicks ∧ t.toRun = true ∧ t.btnArmed = false ∧ t.Dark

/-- 60_exceptions.md R209 (its first two sentences): gated stimuli change nothing, and any number of detected edges
before a service leave one pending flag, set if any was detected and as it was before if none was, that one service
clears. (A first mask that differs from the lines is an edge; if every mask equals them there is none.) -/
def Obligations.GatedStimuliAndCoalescedEdges : Prop :=
  (∀ s : State, (s.refRun = false → exec .ref s = .next s) ∧ (s.toRun = false → exec .tot s = .next s) ∧
    (s.btnPending = false → exec .svc s = .next s)) ∧
  (∀ (s : State) (ms : List Lines), ∃ t u, runScript (ms.map .btn) s = .next t ∧
    t = { s with btnPending := t.btnPending, btnLines := ms.getLastD s.btnLines, script := [] } ∧
    (s.btnArmed = true → (∃ m ∈ ms, m ≠ s.btnLines) → t.btnPending = true) ∧
    (s.btnPending = true → t.btnPending = true) ∧
    (s.btnArmed = false ∨ (∀ m ∈ ms, m = s.btnLines) → t.btnPending = s.btnPending) ∧
    exec .svc t = .next u ∧ u.btnPending = false ∧ exec .svc u = .next u)

/-! ### PowerStateMachine -/

/-- 43_power.md R172: TO_TICK's encoding and its result in every case; a running countdown expires on exactly the
`to_count`-th TO_TICK. -/
def Obligations.ToTickCountsDown : Prop :=
  encode .tot = 0x0003 ∧
  ∀ s : State,
    (s.toRun = false → exec .tot s = .next s) ∧
    (s.toRun = true → 2 ≤ s.toCount.toNat →
      exec .tot s = .next { s with toCount := .of s.toCount.width (s.toCount.toNat - 1) }) ∧
    (s.toRun = true → s.toCount.toNat ≤ 1 → exec .tot s = .next s.expire) ∧
    (∀ n : Nat, s.toRun = true → s.toCount.toNat = n + 1 →
      ∃ t u, runScript (wait n) s = .next t ∧ t.toRun = true ∧ t.toCount = .of s.toCount.width 1 ∧
        exec .tot t = .next u ∧ u = t.expire)

/-- 43_power.md R173: what expiry writes, and that it writes nothing else. -/
def Obligations.ExpiryReturnsToIdle : Prop :=
  ∀ s : State, s.toRun = true → s.toCount.toNat ≤ 1 →
    exec .tot s = .next { s with
      digOn := 0b00
      segN := 0x7F
      refRun := false
      toRun := false
      toCount := .of s.params.toCntW 0
      btnPending := false
      btnArmed := true
      clkFull := .reduced
      powerState := .idle }

/-- 43_power.md R174: a roll loads and runs the countdown whatever its state, with `TIMEOUT_TICKS` in a legal build;
from a displaying state of a legal run, whatever stimuli but RESET come between, expiry follows on exactly the
`to_count`-th TO_TICK and not before. -/
def Obligations.CountdownExpiresOnTheLastTick : Prop :=
  (∀ s t : State, rolls .svc s → exec .svc s = .next t →
    t.toCount = s.params.ticks ∧ t.toRun = true ∧ (s.params.wf = true → t.toCount.toNat = s.params.timeoutTicks)) ∧
  ∀ (s : State) (is : List Instr), s.Inv → s.powerState = .displaying → .rst ∉ is →
    (is.count .tot < s.toCount.toNat →
      ∃ t, runScript is s = .next t ∧ t.powerState = .displaying ∧ t.toRun = true ∧
        t.toCount.toNat + is.count .tot = s.toCount.toNat ∧ t.curValue = s.curValue) ∧
    (is.count .tot + 1 = s.toCount.toNat →
      ∃ t, runScript (is ++ [.tot]) s = .next t ∧ t.powerState = .idle ∧ t.toRun = false ∧
        t.btnArmed = true ∧ t.Dark ∧ t.curValue = s.curValue)

/-- 43_power.md R171: the complete transition table of the power state. -/
def Obligations.PowerStateTransitions : Prop :=
  ∀ (i : Instr) (s t : State), exec i s = .next t →
    (rolls i s → t.powerState = .displaying ∧ t.toCount = s.params.ticks) ∧
    (expires i s → t.powerState = .idle) ∧
    (i = .rst → t.powerState = .idle) ∧
    (¬rolls i s → ¬expires i s → i ≠ .rst → t.powerState = s.powerState)

/-- 43_power.md R170: the registers that go with each power state, at the power-on of every legal build and after every
step from a state of the invariant. -/
def Obligations.RegistersGoWithThePowerState : Prop :=
  ∀ t : State,
    ((∃ p : Params, p.wf = true ∧ t = State.powerOn p) ∨ ∃ s : State, s.Inv ∧ step s = .next t) →
    (t.powerState = .idle → t.btnArmed = true ∧ t.refRun = false ∧ t.toRun = false ∧
      t.clkFull = .reduced ∧ t.digOn = 0b00 ∧ t.segN = 0x7F) ∧
    (t.powerState = .displaying → t.btnArmed = false ∧ t.refRun = true ∧ t.toRun = true ∧
      t.clkFull = .full)

/-- 43_power.md R176 and 10_state.md R38: the clock-rate request changes no operation; a roll sets it, expiry and RESET
lower it, nothing else writes it. -/
def Obligations.ClockRequestAffectsNothing : Prop :=
  ∀ (i : Instr) (s t : State), exec i s = .next t →
    (∀ c : ClockRate, ∃ c', exec i { s with clkFull := c } = .next { t with clkFull := c' }) ∧
    (rolls i s → t.clkFull = .full) ∧ (expires i s ∨ i = .rst → t.clkFull = .reduced) ∧
    (¬rolls i s → ¬expires i s → i ≠ .rst → t.clkFull = s.clkFull)

/-! ### Reset -/

/-- 70_reset_and_hazards.md R230: RESET's encoding and its result from every state: every register but `btn_lines`
takes its reset value. -/
def Obligations.ResetWritesEveryRegisterButTheLines : Prop :=
  encode .rst = 0x0006 ∧
  ∀ s : State, exec .rst s = .next {
    entValid := false, entBit := false, pool := .of s.params.poolW s.params.poolSeed, curValue := 0, showMask := 0b00,
    activeDigit := .ones, powerState := .idle, btnArmed := true, btnPending := false,
    btnLines := s.btnLines, refRun := false, toRun := false, toCount := .of s.params.toCntW 0, segN := 0x7F,
    digOn := 0b00,
    clkFull := .reduced, script := s.script, params := s.params }

/-- 70_reset_and_hazards.md R231, R232: a build's power-on state is the state RESET leaves with its lines at `BTN_INIT`
and nothing waiting; it is `IDLE`, armed, stopped, dark and at the reduced clock, and the entropy collector runs in it. -/
def Obligations.PowerOnIsAReset : Prop :=
  ∀ (p : Params) (s : State), s.params = p → s.btnLines = p.btnInit → s.script = [] →
    exec .rst s = .next (State.powerOn p) ∧ (State.powerOn p).powerState = .idle ∧
    (State.powerOn p).btnArmed = true ∧ (State.powerOn p).refRun = false ∧
    (State.powerOn p).toRun = false ∧ (State.powerOn p).Dark ∧ (State.powerOn p).clkFull = .reduced ∧
    ∀ smp, exec (.ent smp true) (State.powerOn p) =
      .next { State.powerOn p with entBit := smp, entValid := true }

/-! ### Whole-machine rules -/

/-- INV1 to INV5 of 10_state.md section 13 hold after the power-on of every legal build, the default one among them; the
pool then is `POOL_W` bits, at least 24, and holds the build's nonzero `POOL_SEED` (00_scope.md R7, 10_state.md R25). -/
def Obligations.PowerOnSatisfiesInvariant : Prop :=
  (∀ p : Params, p.wf = true → (State.powerOn p).Inv ∧ (State.powerOn p).pool.width = p.poolW ∧ 24 ≤ p.poolW ∧
    (State.powerOn p).pool.toNat = p.poolSeed ∧ p.poolSeed ≠ 0) ∧ State.reset.Inv

/-- INV1 to INV5 of 10_state.md section 13, with `pool` and `to_count` at the build's widths `POOL_W` and `TO_CNT_W`
(R25, R35): every step from a state that satisfies them leaves one that does. -/
def Obligations.StepKeepsInvariant : Prop :=
  ∀ s t : State, s.Inv → step s = .next t → t.Inv

/-- A script of any stimuli in any order, from the power-on of any legal build, is accepted whole and ends in a state
of the invariant (60_exceptions.md R207; 30_encoding.md R80). -/
def Obligations.EveryScriptRunsWithinTheInvariant : Prop :=
  ∀ (p : Params) (is : List Instr), p.wf = true →
    ∃ t, runScript is (State.powerOn p) = .next t ∧ t.Inv ∧ t.params = p ∧ t.script = []

/-- 30_encoding.md R80: every script is accepted; a stimulus whose source is not enabled changes nothing; the
realisable scripts are those that present each stimulus while its source is enabled. -/
def Obligations.EveryScriptIsAccepted : Prop :=
  (∀ s : State, enabled s .ref = s.refRun ∧ enabled s .tot = s.toRun ∧ enabled s .svc = s.btnPending ∧
    (∀ smp v, enabled s (.ent smp v) = true) ∧ (∀ m, enabled s (.btn m) = true) ∧ enabled s .rst = true) ∧
  (∀ (is : List Instr) (s : State), ∃ t, runScript is s = .next t) ∧
  (∀ (i : Instr) (s : State), enabled s i = false → exec i s = .next s) ∧
  (∀ (is : List Instr) (s : State), realisable is s = true ↔
    ∀ (before : List Instr) (i : Instr) (rest : List Instr), is = before ++ i :: rest →
      ∃ t, runScript before s = .next t ∧ enabled t i = true)

/-- 10_state.md R44: every register has the writers of the table and no others, and what an operation writes depends on
nothing but the registers the table lets it read or write and the build's parameters. -/
def Obligations.RegistersHaveOnlyTheirWriters : Prop :=
  ∀ (i : Instr) (s t : State), exec i s = .next t →
    (∀ r, r ∉ mayWrite i → sameReg s t r) ∧
    ∀ s' t' : State, exec i s' = .next t' → s'.params = s.params →
      (∀ r ∈ onlyReads i ++ mayWrite i, sameReg s s' r) → ∀ r ∈ mayWrite i, sameReg t t' r

/-- 70_reset_and_hazards.md R233: the parameters are constant for the life of the block: no step writes them, whatever
it runs. -/
def Obligations.ParametersAreConstant : Prop :=
  ∀ s t : State, step s = .next t → t.params = s.params

/-- 10_state.md R43 (its first sentence): the entropy registers reach no other register, hence no output, but through the
value a roll draws on the die of the lowest pressed button. -/
def Obligations.EntropyReachesOutputsThroughDrawOnly : Prop :=
  ∀ (i : Instr) (s t : State) (v b : Bool) (p : Sized), exec i s = .next t →
    (rolls i s → ∀ k : Fin 6, s.btnLines.getLsbD k = true → (∀ j : Fin 6, j < k → s.btnLines.getLsbD j = false) →
      draw (s.params.die[k]).faces p = draw (s.params.die[k]).faces s.pool) →
    ∃ t', exec i { s with entValid := v, entBit := b, pool := p } = .next t' ∧
      t' = { t with entValid := t'.entValid, entBit := t'.entBit, pool := t'.pool } ∧
      t'.outputs = t.outputs

/-- 42_input.md R156 and 20_memory.md R59: the shown pair always comes from one roll: while `DISPLAYING`, `show_mask` is
the mask of `cur_value`, at power-on and after every step from such a state. -/
def Obligations.ShownPairComesFromOneRoll : Prop :=
  (∀ p : Params, (State.powerOn p).Coherent) ∧
  ∀ s t : State, s.Coherent → step s = .next t → t.Coherent

/-- 60_exceptions.md R208, on the order of service of events due at once: expiry blanks the display before a refresh of
the same cycle could relight it. -/
def Obligations.ExpiryBlanksBeforeARefreshOfTheSameCycle : Prop :=
  ∀ (d : Due) (s : State), s.Inv → s.powerState = .displaying → s.toCount.toNat = 1 → d.tot = true →
    d.rst = false → ∃ t, runScript d.serve s = .next t ∧ t.powerState = .idle ∧ t.Dark

/-- 30_encoding.md R78: the line the disassembler prints assembles to the stimulus it stands for, an invalid sample to
`ent none`. -/
def Obligations.DisassemblyReassembles : Prop :=
  ∀ i : Instr, assembleLine (disassemble i) =
    some [match i with | .ent _ false => .ent false false | i => i]
end

