-- ==== Sys2Proof/Laws/State.lean ====
section
/-! SUPPORT. One lemma per register per named operation: what the operation leaves in the register. -/

namespace Sys2Proof.Machine

/-! ### State.storeSample -/

@[simp] theorem State.storeSample_entValid (s : State) (smp : Bool) : (s.storeSample smp).entValid = true := rfl
@[simp] theorem State.storeSample_entBit (s : State) (smp : Bool) : (s.storeSample smp).entBit = smp := rfl
@[simp] theorem State.storeSample_pool (s : State) (smp : Bool) : (s.storeSample smp).pool = s.pool := rfl
@[simp] theorem State.storeSample_curValue (s : State) (smp : Bool) : (s.storeSample smp).curValue = s.curValue := rfl
@[simp] theorem State.storeSample_showMask (s : State) (smp : Bool) : (s.storeSample smp).showMask = s.showMask := rfl
@[simp] theorem State.storeSample_activeDigit (s : State) (smp : Bool) : (s.storeSample smp).activeDigit = s.activeDigit := rfl
@[simp] theorem State.storeSample_powerState (s : State) (smp : Bool) : (s.storeSample smp).powerState = s.powerState := rfl
@[simp] theorem State.storeSample_btnArmed (s : State) (smp : Bool) : (s.storeSample smp).btnArmed = s.btnArmed := rfl
@[simp] theorem State.storeSample_btnPending (s : State) (smp : Bool) : (s.storeSample smp).btnPending = s.btnPending := rfl
@[simp] theorem State.storeSample_btnLines (s : State) (smp : Bool) : (s.storeSample smp).btnLines = s.btnLines := rfl
@[simp] theorem State.storeSample_refRun (s : State) (smp : Bool) : (s.storeSample smp).refRun = s.refRun := rfl
@[simp] theorem State.storeSample_toRun (s : State) (smp : Bool) : (s.storeSample smp).toRun = s.toRun := rfl
@[simp] theorem State.storeSample_toCount (s : State) (smp : Bool) : (s.storeSample smp).toCount = s.toCount := rfl
@[simp] theorem State.storeSample_segN (s : State) (smp : Bool) : (s.storeSample smp).segN = s.segN := rfl
@[simp] theorem State.storeSample_digOn (s : State) (smp : Bool) : (s.storeSample smp).digOn = s.digOn := rfl
@[simp] theorem State.storeSample_clkFull (s : State) (smp : Bool) : (s.storeSample smp).clkFull = s.clkFull := rfl
@[simp] theorem State.storeSample_script (s : State) (smp : Bool) : (s.storeSample smp).script = s.script := rfl
@[simp] theorem State.storeSample_params (s : State) (smp : Bool) : (s.storeSample smp).params = s.params := rfl

/-! ### State.clearSample -/

@[simp] theorem State.clearSample_entValid (s : State) : (s.clearSample).entValid = false := rfl
@[simp] theorem State.clearSample_entBit (s : State) : (s.clearSample).entBit = s.entBit := rfl
@[simp] theorem State.clearSample_pool (s : State) : (s.clearSample).pool = s.pool := rfl
@[simp] theorem State.clearSample_curValue (s : State) : (s.clearSample).curValue = s.curValue := rfl
@[simp] theorem State.clearSample_showMask (s : State) : (s.clearSample).showMask = s.showMask := rfl
@[simp] theorem State.clearSample_activeDigit (s : State) : (s.clearSample).activeDigit = s.activeDigit := rfl
@[simp] theorem State.clearSample_powerState (s : State) : (s.clearSample).powerState = s.powerState := rfl
@[simp] theorem State.clearSample_btnArmed (s : State) : (s.clearSample).btnArmed = s.btnArmed := rfl
@[simp] theorem State.clearSample_btnPending (s : State) : (s.clearSample).btnPending = s.btnPending := rfl
@[simp] theorem State.clearSample_btnLines (s : State) : (s.clearSample).btnLines = s.btnLines := rfl
@[simp] theorem State.clearSample_refRun (s : State) : (s.clearSample).refRun = s.refRun := rfl
@[simp] theorem State.clearSample_toRun (s : State) : (s.clearSample).toRun = s.toRun := rfl
@[simp] theorem State.clearSample_toCount (s : State) : (s.clearSample).toCount = s.toCount := rfl
@[simp] theorem State.clearSample_segN (s : State) : (s.clearSample).segN = s.segN := rfl
@[simp] theorem State.clearSample_digOn (s : State) : (s.clearSample).digOn = s.digOn := rfl
@[simp] theorem State.clearSample_clkFull (s : State) : (s.clearSample).clkFull = s.clkFull := rfl
@[simp] theorem State.clearSample_script (s : State) : (s.clearSample).script = s.script := rfl
@[simp] theorem State.clearSample_params (s : State) : (s.clearSample).params = s.params := rfl

/-! ### State.mixPool -/

@[simp] theorem State.mixPool_entValid (s : State) (b : Bool) : (s.mixPool b).entValid = s.entValid := rfl
@[simp] theorem State.mixPool_entBit (s : State) (b : Bool) : (s.mixPool b).entBit = s.entBit := rfl
@[simp] theorem State.mixPool_pool (s : State) (b : Bool) : (s.mixPool b).pool = mix b s.pool := rfl
@[simp] theorem State.mixPool_curValue (s : State) (b : Bool) : (s.mixPool b).curValue = s.curValue := rfl
@[simp] theorem State.mixPool_showMask (s : State) (b : Bool) : (s.mixPool b).showMask = s.showMask := rfl
@[simp] theorem State.mixPool_activeDigit (s : State) (b : Bool) : (s.mixPool b).activeDigit = s.activeDigit := rfl
@[simp] theorem State.mixPool_powerState (s : State) (b : Bool) : (s.mixPool b).powerState = s.powerState := rfl
@[simp] theorem State.mixPool_btnArmed (s : State) (b : Bool) : (s.mixPool b).btnArmed = s.btnArmed := rfl
@[simp] theorem State.mixPool_btnPending (s : State) (b : Bool) : (s.mixPool b).btnPending = s.btnPending := rfl
@[simp] theorem State.mixPool_btnLines (s : State) (b : Bool) : (s.mixPool b).btnLines = s.btnLines := rfl
@[simp] theorem State.mixPool_refRun (s : State) (b : Bool) : (s.mixPool b).refRun = s.refRun := rfl
@[simp] theorem State.mixPool_toRun (s : State) (b : Bool) : (s.mixPool b).toRun = s.toRun := rfl
@[simp] theorem State.mixPool_toCount (s : State) (b : Bool) : (s.mixPool b).toCount = s.toCount := rfl
@[simp] theorem State.mixPool_segN (s : State) (b : Bool) : (s.mixPool b).segN = s.segN := rfl
@[simp] theorem State.mixPool_digOn (s : State) (b : Bool) : (s.mixPool b).digOn = s.digOn := rfl
@[simp] theorem State.mixPool_clkFull (s : State) (b : Bool) : (s.mixPool b).clkFull = s.clkFull := rfl
@[simp] theorem State.mixPool_script (s : State) (b : Bool) : (s.mixPool b).script = s.script := rfl
@[simp] theorem State.mixPool_params (s : State) (b : Bool) : (s.mixPool b).params = s.params := rfl

/-! ### State.enableDigit -/

@[simp] theorem State.enableDigit_entValid (s : State) (d : Digit) (on : Bool) : (s.enableDigit d on).entValid = s.entValid := rfl
@[simp] theorem State.enableDigit_entBit (s : State) (d : Digit) (on : Bool) : (s.enableDigit d on).entBit = s.entBit := rfl
@[simp] theorem State.enableDigit_pool (s : State) (d : Digit) (on : Bool) : (s.enableDigit d on).pool = s.pool := rfl
@[simp] theorem State.enableDigit_curValue (s : State) (d : Digit) (on : Bool) : (s.enableDigit d on).curValue = s.curValue := rfl
@[simp] theorem State.enableDigit_showMask (s : State) (d : Digit) (on : Bool) : (s.enableDigit d on).showMask = s.showMask := rfl
@[simp] theorem State.enableDigit_activeDigit (s : State) (d : Digit) (on : Bool) : (s.enableDigit d on).activeDigit = s.activeDigit := rfl
@[simp] theorem State.enableDigit_powerState (s : State) (d : Digit) (on : Bool) : (s.enableDigit d on).powerState = s.powerState := rfl
@[simp] theorem State.enableDigit_btnArmed (s : State) (d : Digit) (on : Bool) : (s.enableDigit d on).btnArmed = s.btnArmed := rfl
@[simp] theorem State.enableDigit_btnPending (s : State) (d : Digit) (on : Bool) : (s.enableDigit d on).btnPending = s.btnPending := rfl
@[simp] theorem State.enableDigit_btnLines (s : State) (d : Digit) (on : Bool) : (s.enableDigit d on).btnLines = s.btnLines := rfl
@[simp] theorem State.enableDigit_refRun (s : State) (d : Digit) (on : Bool) : (s.enableDigit d on).refRun = s.refRun := rfl
@[simp] theorem State.enableDigit_toRun (s : State) (d : Digit) (on : Bool) : (s.enableDigit d on).toRun = s.toRun := rfl
@[simp] theorem State.enableDigit_toCount (s : State) (d : Digit) (on : Bool) : (s.enableDigit d on).toCount = s.toCount := rfl
@[simp] theorem State.enableDigit_segN (s : State) (d : Digit) (on : Bool) : (s.enableDigit d on).segN = s.segN := rfl
@[simp] theorem State.enableDigit_digOn (s : State) (d : Digit) (on : Bool) : (s.enableDigit d on).digOn = setDigit s.digOn d on := rfl
@[simp] theorem State.enableDigit_clkFull (s : State) (d : Digit) (on : Bool) : (s.enableDigit d on).clkFull = s.clkFull := rfl
@[simp] theorem State.enableDigit_script (s : State) (d : Digit) (on : Bool) : (s.enableDigit d on).script = s.script := rfl
@[simp] theorem State.enableDigit_params (s : State) (d : Digit) (on : Bool) : (s.enableDigit d on).params = s.params := rfl

/-! ### State.writeSegments -/

@[simp] theorem State.writeSegments_entValid (s : State) (bits : Segments) : (s.writeSegments bits).entValid = s.entValid := rfl
@[simp] theorem State.writeSegments_entBit (s : State) (bits : Segments) : (s.writeSegments bits).entBit = s.entBit := rfl
@[simp] theorem State.writeSegments_pool (s : State) (bits : Segments) : (s.writeSegments bits).pool = s.pool := rfl
@[simp] theorem State.writeSegments_curValue (s : State) (bits : Segments) : (s.writeSegments bits).curValue = s.curValue := rfl
@[simp] theorem State.writeSegments_showMask (s : State) (bits : Segments) : (s.writeSegments bits).showMask = s.showMask := rfl
@[simp] theorem State.writeSegments_activeDigit (s : State) (bits : Segments) : (s.writeSegments bits).activeDigit = s.activeDigit := rfl
@[simp] theorem State.writeSegments_powerState (s : State) (bits : Segments) : (s.writeSegments bits).powerState = s.powerState := rfl
@[simp] theorem State.writeSegments_btnArmed (s : State) (bits : Segments) : (s.writeSegments bits).btnArmed = s.btnArmed := rfl
@[simp] theorem State.writeSegments_btnPending (s : State) (bits : Segments) : (s.writeSegments bits).btnPending = s.btnPending := rfl
@[simp] theorem State.writeSegments_btnLines (s : State) (bits : Segments) : (s.writeSegments bits).btnLines = s.btnLines := rfl
@[simp] theorem State.writeSegments_refRun (s : State) (bits : Segments) : (s.writeSegments bits).refRun = s.refRun := rfl
@[simp] theorem State.writeSegments_toRun (s : State) (bits : Segments) : (s.writeSegments bits).toRun = s.toRun := rfl
@[simp] theorem State.writeSegments_toCount (s : State) (bits : Segments) : (s.writeSegments bits).toCount = s.toCount := rfl
@[simp] theorem State.writeSegments_segN (s : State) (bits : Segments) : (s.writeSegments bits).segN = bits := rfl
@[simp] theorem State.writeSegments_digOn (s : State) (bits : Segments) : (s.writeSegments bits).digOn = s.digOn := rfl
@[simp] theorem State.writeSegments_clkFull (s : State) (bits : Segments) : (s.writeSegments bits).clkFull = s.clkFull := rfl
@[simp] theorem State.writeSegments_script (s : State) (bits : Segments) : (s.writeSegments bits).script = s.script := rfl
@[simp] theorem State.writeSegments_params (s : State) (bits : Segments) : (s.writeSegments bits).params = s.params := rfl

/-! ### State.setActive -/

@[simp] theorem State.setActive_entValid (s : State) (d : Digit) : (s.setActive d).entValid = s.entValid := rfl
@[simp] theorem State.setActive_entBit (s : State) (d : Digit) : (s.setActive d).entBit = s.entBit := rfl
@[simp] theorem State.setActive_pool (s : State) (d : Digit) : (s.setActive d).pool = s.pool := rfl
@[simp] theorem State.setActive_curValue (s : State) (d : Digit) : (s.setActive d).curValue = s.curValue := rfl
@[simp] theorem State.setActive_showMask (s : State) (d : Digit) : (s.setActive d).showMask = s.showMask := rfl
@[simp] theorem State.setActive_activeDigit (s : State) (d : Digit) : (s.setActive d).activeDigit = d := rfl
@[simp] theorem State.setActive_powerState (s : State) (d : Digit) : (s.setActive d).powerState = s.powerState := rfl
@[simp] theorem State.setActive_btnArmed (s : State) (d : Digit) : (s.setActive d).btnArmed = s.btnArmed := rfl
@[simp] theorem State.setActive_btnPending (s : State) (d : Digit) : (s.setActive d).btnPending = s.btnPending := rfl
@[simp] theorem State.setActive_btnLines (s : State) (d : Digit) : (s.setActive d).btnLines = s.btnLines := rfl
@[simp] theorem State.setActive_refRun (s : State) (d : Digit) : (s.setActive d).refRun = s.refRun := rfl
@[simp] theorem State.setActive_toRun (s : State) (d : Digit) : (s.setActive d).toRun = s.toRun := rfl
@[simp] theorem State.setActive_toCount (s : State) (d : Digit) : (s.setActive d).toCount = s.toCount := rfl
@[simp] theorem State.setActive_segN (s : State) (d : Digit) : (s.setActive d).segN = s.segN := rfl
@[simp] theorem State.setActive_digOn (s : State) (d : Digit) : (s.setActive d).digOn = s.digOn := rfl
@[simp] theorem State.setActive_clkFull (s : State) (d : Digit) : (s.setActive d).clkFull = s.clkFull := rfl
@[simp] theorem State.setActive_script (s : State) (d : Digit) : (s.setActive d).script = s.script := rfl
@[simp] theorem State.setActive_params (s : State) (d : Digit) : (s.setActive d).params = s.params := rfl

/-! ### State.setArmed -/

@[simp] theorem State.setArmed_entValid (s : State) (b : Bool) : (s.setArmed b).entValid = s.entValid := rfl
@[simp] theorem State.setArmed_entBit (s : State) (b : Bool) : (s.setArmed b).entBit = s.entBit := rfl
@[simp] theorem State.setArmed_pool (s : State) (b : Bool) : (s.setArmed b).pool = s.pool := rfl
@[simp] theorem State.setArmed_curValue (s : State) (b : Bool) : (s.setArmed b).curValue = s.curValue := rfl
@[simp] theorem State.setArmed_showMask (s : State) (b : Bool) : (s.setArmed b).showMask = s.showMask := rfl
@[simp] theorem State.setArmed_activeDigit (s : State) (b : Bool) : (s.setArmed b).activeDigit = s.activeDigit := rfl
@[simp] theorem State.setArmed_powerState (s : State) (b : Bool) : (s.setArmed b).powerState = s.powerState := rfl
@[simp] theorem State.setArmed_btnArmed (s : State) (b : Bool) : (s.setArmed b).btnArmed = b := rfl
@[simp] theorem State.setArmed_btnPending (s : State) (b : Bool) : (s.setArmed b).btnPending = s.btnPending := rfl
@[simp] theorem State.setArmed_btnLines (s : State) (b : Bool) : (s.setArmed b).btnLines = s.btnLines := rfl
@[simp] theorem State.setArmed_refRun (s : State) (b : Bool) : (s.setArmed b).refRun = s.refRun := rfl
@[simp] theorem State.setArmed_toRun (s : State) (b : Bool) : (s.setArmed b).toRun = s.toRun := rfl
@[simp] theorem State.setArmed_toCount (s : State) (b : Bool) : (s.setArmed b).toCount = s.toCount := rfl
@[simp] theorem State.setArmed_segN (s : State) (b : Bool) : (s.setArmed b).segN = s.segN := rfl
@[simp] theorem State.setArmed_digOn (s : State) (b : Bool) : (s.setArmed b).digOn = s.digOn := rfl
@[simp] theorem State.setArmed_clkFull (s : State) (b : Bool) : (s.setArmed b).clkFull = s.clkFull := rfl
@[simp] theorem State.setArmed_script (s : State) (b : Bool) : (s.setArmed b).script = s.script := rfl
@[simp] theorem State.setArmed_params (s : State) (b : Bool) : (s.setArmed b).params = s.params := rfl

/-! ### State.setPending -/

@[simp] theorem State.setPending_entValid (s : State) (b : Bool) : (s.setPending b).entValid = s.entValid := rfl
@[simp] theorem State.setPending_entBit (s : State) (b : Bool) : (s.setPending b).entBit = s.entBit := rfl
@[simp] theorem State.setPending_pool (s : State) (b : Bool) : (s.setPending b).pool = s.pool := rfl
@[simp] theorem State.setPending_curValue (s : State) (b : Bool) : (s.setPending b).curValue = s.curValue := rfl
@[simp] theorem State.setPending_showMask (s : State) (b : Bool) : (s.setPending b).showMask = s.showMask := rfl
@[simp] theorem State.setPending_activeDigit (s : State) (b : Bool) : (s.setPending b).activeDigit = s.activeDigit := rfl
@[simp] theorem State.setPending_powerState (s : State) (b : Bool) : (s.setPending b).powerState = s.powerState := rfl
@[simp] theorem State.setPending_btnArmed (s : State) (b : Bool) : (s.setPending b).btnArmed = s.btnArmed := rfl
@[simp] theorem State.setPending_btnPending (s : State) (b : Bool) : (s.setPending b).btnPending = b := rfl
@[simp] theorem State.setPending_btnLines (s : State) (b : Bool) : (s.setPending b).btnLines = s.btnLines := rfl
@[simp] theorem State.setPending_refRun (s : State) (b : Bool) : (s.setPending b).refRun = s.refRun := rfl
@[simp] theorem State.setPending_toRun (s : State) (b : Bool) : (s.setPending b).toRun = s.toRun := rfl
@[simp] theorem State.setPending_toCount (s : State) (b : Bool) : (s.setPending b).toCount = s.toCount := rfl
@[simp] theorem State.setPending_segN (s : State) (b : Bool) : (s.setPending b).segN = s.segN := rfl
@[simp] theorem State.setPending_digOn (s : State) (b : Bool) : (s.setPending b).digOn = s.digOn := rfl
@[simp] theorem State.setPending_clkFull (s : State) (b : Bool) : (s.setPending b).clkFull = s.clkFull := rfl
@[simp] theorem State.setPending_script (s : State) (b : Bool) : (s.setPending b).script = s.script := rfl
@[simp] theorem State.setPending_params (s : State) (b : Bool) : (s.setPending b).params = s.params := rfl

/-! ### State.setLines -/

@[simp] theorem State.setLines_entValid (s : State) (m : Lines) : (s.setLines m).entValid = s.entValid := rfl
@[simp] theorem State.setLines_entBit (s : State) (m : Lines) : (s.setLines m).entBit = s.entBit := rfl
@[simp] theorem State.setLines_pool (s : State) (m : Lines) : (s.setLines m).pool = s.pool := rfl
@[simp] theorem State.setLines_curValue (s : State) (m : Lines) : (s.setLines m).curValue = s.curValue := rfl
@[simp] theorem State.setLines_showMask (s : State) (m : Lines) : (s.setLines m).showMask = s.showMask := rfl
@[simp] theorem State.setLines_activeDigit (s : State) (m : Lines) : (s.setLines m).activeDigit = s.activeDigit := rfl
@[simp] theorem State.setLines_powerState (s : State) (m : Lines) : (s.setLines m).powerState = s.powerState := rfl
@[simp] theorem State.setLines_btnArmed (s : State) (m : Lines) : (s.setLines m).btnArmed = s.btnArmed := rfl
@[simp] theorem State.setLines_btnPending (s : State) (m : Lines) : (s.setLines m).btnPending = s.btnPending := rfl
@[simp] theorem State.setLines_btnLines (s : State) (m : Lines) : (s.setLines m).btnLines = m := rfl
@[simp] theorem State.setLines_refRun (s : State) (m : Lines) : (s.setLines m).refRun = s.refRun := rfl
@[simp] theorem State.setLines_toRun (s : State) (m : Lines) : (s.setLines m).toRun = s.toRun := rfl
@[simp] theorem State.setLines_toCount (s : State) (m : Lines) : (s.setLines m).toCount = s.toCount := rfl
@[simp] theorem State.setLines_segN (s : State) (m : Lines) : (s.setLines m).segN = s.segN := rfl
@[simp] theorem State.setLines_digOn (s : State) (m : Lines) : (s.setLines m).digOn = s.digOn := rfl
@[simp] theorem State.setLines_clkFull (s : State) (m : Lines) : (s.setLines m).clkFull = s.clkFull := rfl
@[simp] theorem State.setLines_script (s : State) (m : Lines) : (s.setLines m).script = s.script := rfl
@[simp] theorem State.setLines_params (s : State) (m : Lines) : (s.setLines m).params = s.params := rfl

/-! ### State.setClock -/

@[simp] theorem State.setClock_entValid (s : State) (r : ClockRate) : (s.setClock r).entValid = s.entValid := rfl
@[simp] theorem State.setClock_entBit (s : State) (r : ClockRate) : (s.setClock r).entBit = s.entBit := rfl
@[simp] theorem State.setClock_pool (s : State) (r : ClockRate) : (s.setClock r).pool = s.pool := rfl
@[simp] theorem State.setClock_curValue (s : State) (r : ClockRate) : (s.setClock r).curValue = s.curValue := rfl
@[simp] theorem State.setClock_showMask (s : State) (r : ClockRate) : (s.setClock r).showMask = s.showMask := rfl
@[simp] theorem State.setClock_activeDigit (s : State) (r : ClockRate) : (s.setClock r).activeDigit = s.activeDigit := rfl
@[simp] theorem State.setClock_powerState (s : State) (r : ClockRate) : (s.setClock r).powerState = s.powerState := rfl
@[simp] theorem State.setClock_btnArmed (s : State) (r : ClockRate) : (s.setClock r).btnArmed = s.btnArmed := rfl
@[simp] theorem State.setClock_btnPending (s : State) (r : ClockRate) : (s.setClock r).btnPending = s.btnPending := rfl
@[simp] theorem State.setClock_btnLines (s : State) (r : ClockRate) : (s.setClock r).btnLines = s.btnLines := rfl
@[simp] theorem State.setClock_refRun (s : State) (r : ClockRate) : (s.setClock r).refRun = s.refRun := rfl
@[simp] theorem State.setClock_toRun (s : State) (r : ClockRate) : (s.setClock r).toRun = s.toRun := rfl
@[simp] theorem State.setClock_toCount (s : State) (r : ClockRate) : (s.setClock r).toCount = s.toCount := rfl
@[simp] theorem State.setClock_segN (s : State) (r : ClockRate) : (s.setClock r).segN = s.segN := rfl
@[simp] theorem State.setClock_digOn (s : State) (r : ClockRate) : (s.setClock r).digOn = s.digOn := rfl
@[simp] theorem State.setClock_clkFull (s : State) (r : ClockRate) : (s.setClock r).clkFull = r := rfl
@[simp] theorem State.setClock_script (s : State) (r : ClockRate) : (s.setClock r).script = s.script := rfl
@[simp] theorem State.setClock_params (s : State) (r : ClockRate) : (s.setClock r).params = s.params := rfl

/-! ### State.publish -/

@[simp] theorem State.publish_entValid (s : State) (v : Nat) : (s.publish v).entValid = s.entValid := rfl
@[simp] theorem State.publish_entBit (s : State) (v : Nat) : (s.publish v).entBit = s.entBit := rfl
@[simp] theorem State.publish_pool (s : State) (v : Nat) : (s.publish v).pool = s.pool := rfl
@[simp] theorem State.publish_curValue (s : State) (v : Nat) : (s.publish v).curValue = BitVec.ofNat 7 v := rfl
@[simp] theorem State.publish_showMask (s : State) (v : Nat) : (s.publish v).showMask = rollMask s.params.leadingZeroBlank v := rfl
@[simp] theorem State.publish_activeDigit (s : State) (v : Nat) : (s.publish v).activeDigit = s.activeDigit := rfl
@[simp] theorem State.publish_powerState (s : State) (v : Nat) : (s.publish v).powerState = s.powerState := rfl
@[simp] theorem State.publish_btnArmed (s : State) (v : Nat) : (s.publish v).btnArmed = s.btnArmed := rfl
@[simp] theorem State.publish_btnPending (s : State) (v : Nat) : (s.publish v).btnPending = s.btnPending := rfl
@[simp] theorem State.publish_btnLines (s : State) (v : Nat) : (s.publish v).btnLines = s.btnLines := rfl
@[simp] theorem State.publish_refRun (s : State) (v : Nat) : (s.publish v).refRun = s.refRun := rfl
@[simp] theorem State.publish_toRun (s : State) (v : Nat) : (s.publish v).toRun = s.toRun := rfl
@[simp] theorem State.publish_toCount (s : State) (v : Nat) : (s.publish v).toCount = s.toCount := rfl
@[simp] theorem State.publish_segN (s : State) (v : Nat) : (s.publish v).segN = s.segN := rfl
@[simp] theorem State.publish_digOn (s : State) (v : Nat) : (s.publish v).digOn = s.digOn := rfl
@[simp] theorem State.publish_clkFull (s : State) (v : Nat) : (s.publish v).clkFull = s.clkFull := rfl
@[simp] theorem State.publish_script (s : State) (v : Nat) : (s.publish v).script = s.script := rfl
@[simp] theorem State.publish_params (s : State) (v : Nat) : (s.publish v).params = s.params := rfl

/-! ### State.startCountdown -/

@[simp] theorem State.startCountdown_entValid (s : State) : (s.startCountdown).entValid = s.entValid := rfl
@[simp] theorem State.startCountdown_entBit (s : State) : (s.startCountdown).entBit = s.entBit := rfl
@[simp] theorem State.startCountdown_pool (s : State) : (s.startCountdown).pool = s.pool := rfl
@[simp] theorem State.startCountdown_curValue (s : State) : (s.startCountdown).curValue = s.curValue := rfl
@[simp] theorem State.startCountdown_showMask (s : State) : (s.startCountdown).showMask = s.showMask := rfl
@[simp] theorem State.startCountdown_activeDigit (s : State) : (s.startCountdown).activeDigit = s.activeDigit := rfl
@[simp] theorem State.startCountdown_powerState (s : State) : (s.startCountdown).powerState = s.powerState := rfl
@[simp] theorem State.startCountdown_btnArmed (s : State) : (s.startCountdown).btnArmed = s.btnArmed := rfl
@[simp] theorem State.startCountdown_btnPending (s : State) : (s.startCountdown).btnPending = s.btnPending := rfl
@[simp] theorem State.startCountdown_btnLines (s : State) : (s.startCountdown).btnLines = s.btnLines := rfl
@[simp] theorem State.startCountdown_refRun (s : State) : (s.startCountdown).refRun = s.refRun := rfl
@[simp] theorem State.startCountdown_toRun (s : State) : (s.startCountdown).toRun = true := rfl
@[simp] theorem State.startCountdown_toCount (s : State) : (s.startCountdown).toCount = s.params.ticks := rfl
@[simp] theorem State.startCountdown_segN (s : State) : (s.startCountdown).segN = s.segN := rfl
@[simp] theorem State.startCountdown_digOn (s : State) : (s.startCountdown).digOn = s.digOn := rfl
@[simp] theorem State.startCountdown_clkFull (s : State) : (s.startCountdown).clkFull = s.clkFull := rfl
@[simp] theorem State.startCountdown_script (s : State) : (s.startCountdown).script = s.script := rfl
@[simp] theorem State.startCountdown_params (s : State) : (s.startCountdown).params = s.params := rfl

/-! ### State.startRefresh -/

@[simp] theorem State.startRefresh_entValid (s : State) : (s.startRefresh).entValid = s.entValid := rfl
@[simp] theorem State.startRefresh_entBit (s : State) : (s.startRefresh).entBit = s.entBit := rfl
@[simp] theorem State.startRefresh_pool (s : State) : (s.startRefresh).pool = s.pool := rfl
@[simp] theorem State.startRefresh_curValue (s : State) : (s.startRefresh).curValue = s.curValue := rfl
@[simp] theorem State.startRefresh_showMask (s : State) : (s.startRefresh).showMask = s.showMask := rfl
@[simp] theorem State.startRefresh_activeDigit (s : State) : (s.startRefresh).activeDigit = s.activeDigit := rfl
@[simp] theorem State.startRefresh_powerState (s : State) : (s.startRefresh).powerState = s.powerState := rfl
@[simp] theorem State.startRefresh_btnArmed (s : State) : (s.startRefresh).btnArmed = s.btnArmed := rfl
@[simp] theorem State.startRefresh_btnPending (s : State) : (s.startRefresh).btnPending = s.btnPending := rfl
@[simp] theorem State.startRefresh_btnLines (s : State) : (s.startRefresh).btnLines = s.btnLines := rfl
@[simp] theorem State.startRefresh_refRun (s : State) : (s.startRefresh).refRun = true := rfl
@[simp] theorem State.startRefresh_toRun (s : State) : (s.startRefresh).toRun = s.toRun := rfl
@[simp] theorem State.startRefresh_toCount (s : State) : (s.startRefresh).toCount = s.toCount := rfl
@[simp] theorem State.startRefresh_segN (s : State) : (s.startRefresh).segN = s.segN := rfl
@[simp] theorem State.startRefresh_digOn (s : State) : (s.startRefresh).digOn = s.digOn := rfl
@[simp] theorem State.startRefresh_clkFull (s : State) : (s.startRefresh).clkFull = s.clkFull := rfl
@[simp] theorem State.startRefresh_script (s : State) : (s.startRefresh).script = s.script := rfl
@[simp] theorem State.startRefresh_params (s : State) : (s.startRefresh).params = s.params := rfl

/-! ### State.setPower -/

@[simp] theorem State.setPower_entValid (s : State) (p : PowerState) : (s.setPower p).entValid = s.entValid := rfl
@[simp] theorem State.setPower_entBit (s : State) (p : PowerState) : (s.setPower p).entBit = s.entBit := rfl
@[simp] theorem State.setPower_pool (s : State) (p : PowerState) : (s.setPower p).pool = s.pool := rfl
@[simp] theorem State.setPower_curValue (s : State) (p : PowerState) : (s.setPower p).curValue = s.curValue := rfl
@[simp] theorem State.setPower_showMask (s : State) (p : PowerState) : (s.setPower p).showMask = s.showMask := rfl
@[simp] theorem State.setPower_activeDigit (s : State) (p : PowerState) : (s.setPower p).activeDigit = s.activeDigit := rfl
@[simp] theorem State.setPower_powerState (s : State) (p : PowerState) : (s.setPower p).powerState = p := rfl
@[simp] theorem State.setPower_btnArmed (s : State) (p : PowerState) : (s.setPower p).btnArmed = s.btnArmed := rfl
@[simp] theorem State.setPower_btnPending (s : State) (p : PowerState) : (s.setPower p).btnPending = s.btnPending := rfl
@[simp] theorem State.setPower_btnLines (s : State) (p : PowerState) : (s.setPower p).btnLines = s.btnLines := rfl
@[simp] theorem State.setPower_refRun (s : State) (p : PowerState) : (s.setPower p).refRun = s.refRun := rfl
@[simp] theorem State.setPower_toRun (s : State) (p : PowerState) : (s.setPower p).toRun = s.toRun := rfl
@[simp] theorem State.setPower_toCount (s : State) (p : PowerState) : (s.setPower p).toCount = s.toCount := rfl
@[simp] theorem State.setPower_segN (s : State) (p : PowerState) : (s.setPower p).segN = s.segN := rfl
@[simp] theorem State.setPower_digOn (s : State) (p : PowerState) : (s.setPower p).digOn = s.digOn := rfl
@[simp] theorem State.setPower_clkFull (s : State) (p : PowerState) : (s.setPower p).clkFull = s.clkFull := rfl
@[simp] theorem State.setPower_script (s : State) (p : PowerState) : (s.setPower p).script = s.script := rfl
@[simp] theorem State.setPower_params (s : State) (p : PowerState) : (s.setPower p).params = s.params := rfl

/-! ### State.setCount -/

@[simp] theorem State.setCount_entValid (s : State) (c : Sized) : (s.setCount c).entValid = s.entValid := rfl
@[simp] theorem State.setCount_entBit (s : State) (c : Sized) : (s.setCount c).entBit = s.entBit := rfl
@[simp] theorem State.setCount_pool (s : State) (c : Sized) : (s.setCount c).pool = s.pool := rfl
@[simp] theorem State.setCount_curValue (s : State) (c : Sized) : (s.setCount c).curValue = s.curValue := rfl
@[simp] theorem State.setCount_showMask (s : State) (c : Sized) : (s.setCount c).showMask = s.showMask := rfl
@[simp] theorem State.setCount_activeDigit (s : State) (c : Sized) : (s.setCount c).activeDigit = s.activeDigit := rfl
@[simp] theorem State.setCount_powerState (s : State) (c : Sized) : (s.setCount c).powerState = s.powerState := rfl
@[simp] theorem State.setCount_btnArmed (s : State) (c : Sized) : (s.setCount c).btnArmed = s.btnArmed := rfl
@[simp] theorem State.setCount_btnPending (s : State) (c : Sized) : (s.setCount c).btnPending = s.btnPending := rfl
@[simp] theorem State.setCount_btnLines (s : State) (c : Sized) : (s.setCount c).btnLines = s.btnLines := rfl
@[simp] theorem State.setCount_refRun (s : State) (c : Sized) : (s.setCount c).refRun = s.refRun := rfl
@[simp] theorem State.setCount_toRun (s : State) (c : Sized) : (s.setCount c).toRun = s.toRun := rfl
@[simp] theorem State.setCount_toCount (s : State) (c : Sized) : (s.setCount c).toCount = c := rfl
@[simp] theorem State.setCount_segN (s : State) (c : Sized) : (s.setCount c).segN = s.segN := rfl
@[simp] theorem State.setCount_digOn (s : State) (c : Sized) : (s.setCount c).digOn = s.digOn := rfl
@[simp] theorem State.setCount_clkFull (s : State) (c : Sized) : (s.setCount c).clkFull = s.clkFull := rfl
@[simp] theorem State.setCount_script (s : State) (c : Sized) : (s.setCount c).script = s.script := rfl
@[simp] theorem State.setCount_params (s : State) (c : Sized) : (s.setCount c).params = s.params := rfl

/-! ### State.advance -/

@[simp] theorem State.advance_entValid (s : State) : (s.advance).entValid = s.entValid := rfl
@[simp] theorem State.advance_entBit (s : State) : (s.advance).entBit = s.entBit := rfl
@[simp] theorem State.advance_pool (s : State) : (s.advance).pool = s.pool := rfl
@[simp] theorem State.advance_curValue (s : State) : (s.advance).curValue = s.curValue := rfl
@[simp] theorem State.advance_showMask (s : State) : (s.advance).showMask = s.showMask := rfl
@[simp] theorem State.advance_activeDigit (s : State) : (s.advance).activeDigit = s.activeDigit := rfl
@[simp] theorem State.advance_powerState (s : State) : (s.advance).powerState = s.powerState := rfl
@[simp] theorem State.advance_btnArmed (s : State) : (s.advance).btnArmed = s.btnArmed := rfl
@[simp] theorem State.advance_btnPending (s : State) : (s.advance).btnPending = s.btnPending := rfl
@[simp] theorem State.advance_btnLines (s : State) : (s.advance).btnLines = s.btnLines := rfl
@[simp] theorem State.advance_refRun (s : State) : (s.advance).refRun = s.refRun := rfl
@[simp] theorem State.advance_toRun (s : State) : (s.advance).toRun = s.toRun := rfl
@[simp] theorem State.advance_toCount (s : State) : (s.advance).toCount = s.toCount := rfl
@[simp] theorem State.advance_segN (s : State) : (s.advance).segN = s.segN := rfl
@[simp] theorem State.advance_digOn (s : State) : (s.advance).digOn = s.digOn := rfl
@[simp] theorem State.advance_clkFull (s : State) : (s.advance).clkFull = s.clkFull := rfl
@[simp] theorem State.advance_script (s : State) : (s.advance).script = s.script.tail := rfl
@[simp] theorem State.advance_params (s : State) : (s.advance).params = s.params := rfl

/-! ### State.present -/

@[simp] theorem State.present_entValid (s : State) (w : Word) : (s.present w).entValid = s.entValid := rfl
@[simp] theorem State.present_entBit (s : State) (w : Word) : (s.present w).entBit = s.entBit := rfl
@[simp] theorem State.present_pool (s : State) (w : Word) : (s.present w).pool = s.pool := rfl
@[simp] theorem State.present_curValue (s : State) (w : Word) : (s.present w).curValue = s.curValue := rfl
@[simp] theorem State.present_showMask (s : State) (w : Word) : (s.present w).showMask = s.showMask := rfl
@[simp] theorem State.present_activeDigit (s : State) (w : Word) : (s.present w).activeDigit = s.activeDigit := rfl
@[simp] theorem State.present_powerState (s : State) (w : Word) : (s.present w).powerState = s.powerState := rfl
@[simp] theorem State.present_btnArmed (s : State) (w : Word) : (s.present w).btnArmed = s.btnArmed := rfl
@[simp] theorem State.present_btnPending (s : State) (w : Word) : (s.present w).btnPending = s.btnPending := rfl
@[simp] theorem State.present_btnLines (s : State) (w : Word) : (s.present w).btnLines = s.btnLines := rfl
@[simp] theorem State.present_refRun (s : State) (w : Word) : (s.present w).refRun = s.refRun := rfl
@[simp] theorem State.present_toRun (s : State) (w : Word) : (s.present w).toRun = s.toRun := rfl
@[simp] theorem State.present_toCount (s : State) (w : Word) : (s.present w).toCount = s.toCount := rfl
@[simp] theorem State.present_segN (s : State) (w : Word) : (s.present w).segN = s.segN := rfl
@[simp] theorem State.present_digOn (s : State) (w : Word) : (s.present w).digOn = s.digOn := rfl
@[simp] theorem State.present_clkFull (s : State) (w : Word) : (s.present w).clkFull = s.clkFull := rfl
@[simp] theorem State.present_script (s : State) (w : Word) : (s.present w).script = w :: s.script := rfl
@[simp] theorem State.present_params (s : State) (w : Word) : (s.present w).params = s.params := rfl

/-! ### State.expire -/

@[simp] theorem State.expire_entValid (s : State) : (s.expire).entValid = s.entValid := rfl
@[simp] theorem State.expire_entBit (s : State) : (s.expire).entBit = s.entBit := rfl
@[simp] theorem State.expire_pool (s : State) : (s.expire).pool = s.pool := rfl
@[simp] theorem State.expire_curValue (s : State) : (s.expire).curValue = s.curValue := rfl
@[simp] theorem State.expire_showMask (s : State) : (s.expire).showMask = s.showMask := rfl
@[simp] theorem State.expire_activeDigit (s : State) : (s.expire).activeDigit = s.activeDigit := rfl
@[simp] theorem State.expire_powerState (s : State) : (s.expire).powerState = .idle := rfl
@[simp] theorem State.expire_btnArmed (s : State) : (s.expire).btnArmed = true := rfl
@[simp] theorem State.expire_btnPending (s : State) : (s.expire).btnPending = false := rfl
@[simp] theorem State.expire_btnLines (s : State) : (s.expire).btnLines = s.btnLines := rfl
@[simp] theorem State.expire_refRun (s : State) : (s.expire).refRun = false := rfl
@[simp] theorem State.expire_toRun (s : State) : (s.expire).toRun = false := rfl
@[simp] theorem State.expire_toCount (s : State) : (s.expire).toCount = .of s.params.toCntW 0 := rfl
@[simp] theorem State.expire_segN (s : State) : (s.expire).segN = blank := rfl
@[simp] theorem State.expire_digOn (s : State) : (s.expire).digOn = 0b00 := rfl
@[simp] theorem State.expire_clkFull (s : State) : (s.expire).clkFull = .reduced := rfl
@[simp] theorem State.expire_script (s : State) : (s.expire).script = s.script := rfl
@[simp] theorem State.expire_params (s : State) : (s.expire).params = s.params := rfl

end Sys2Proof.Machine
end

