-- ==== Sys2Proof/Laws/Operands.lean ====
section
/-! SUPPORT. What the operand functions give: digits, the scan, the draw, the tables. -/

namespace Sys2Proof.Machine

@[simp] theorem width_of (w v : Nat) : (Sized.of w v).width = w := rfl

@[simp] theorem toNat_of (w v : Nat) : (Sized.of w v).toNat = v % 2 ^ w := BitVec.toNat_ofNat v w

/-- A register is its width and the integer it holds. -/
theorem of_toNat (r : Sized) : Sized.of r.width r.toNat = r := by
  cases r; simp [Sized.of, Sized.toNat]

@[simp] theorem width_seed (p : Params) : p.seed.width = p.poolW := rfl

@[simp] theorem width_ticks (p : Params) : p.ticks.width = p.toCntW := rfl

/-- What a legal build is (00_scope.md R7, 70_reset_and_hazards.md R233). -/
theorem wf_iff (p : Params) : p.wf = true ↔ 24 ≤ p.poolW ∧ p.poolSeed ≠ 0 ∧ p.poolSeed < 2 ^ p.poolW ∧
    1 ≤ p.timeoutTicks ∧ p.timeoutTicks < 2 ^ p.toCntW := by
  simp [Params.wf, Params.widthLegal, Params.seedLegal, Params.timeoutLegal, and_assoc]

/-- A legal build's seed fits the pool. -/
theorem toNat_seed {p : Params} (h : p.wf = true) : p.seed.toNat = p.poolSeed :=
  (toNat_of ..).trans (Nat.mod_eq_of_lt ((wf_iff p).mp h).2.2.1)

/-- A legal build's timeout fits the countdown. -/
theorem toNat_ticks {p : Params} (h : p.wf = true) : p.ticks.toNat = p.timeoutTicks :=
  (toNat_of ..).trans (Nat.mod_eq_of_lt ((wf_iff p).mp h).2.2.2.2)

@[simp] theorem width_mix (b : Bool) (pool : Sized) : (mix b pool).width = pool.width := rfl

@[simp] theorem width_countAfter (c : Sized) : (countAfter c).width = c.width := by
  unfold countAfter; split <;> rfl

@[simp] theorem getDigit_setDigit_same (v : DigitSet) (d : Digit) (b : Bool) :
    getDigit (setDigit v d b) d = b := by
  revert v b; cases d <;> decide

@[simp] theorem getDigit_setDigit_other (v : DigitSet) (d : Digit) (b : Bool) :
    getDigit (setDigit v d b) d.other = getDigit v d.other := by
  revert v b; cases d <;> decide

@[simp] theorem getDigit_setDigit_of_other (v : DigitSet) (d : Digit) (b : Bool) :
    getDigit (setDigit v d.other b) d = getDigit v d := by
  revert v b; cases d <;> decide

@[simp] theorem other_other (d : Digit) : d.other.other = d := by cases d <;> rfl

/-- A digit set is its two bits. -/
theorem digitSet_ext (v w : DigitSet) (d : Digit) (h : getDigit v d = getDigit w d)
    (h' : getDigit v d.other = getDigit w d.other) : v = w := by
  revert v w; cases d <;> decide

/-- The ones bit of a roll's mask is always 1 (41_display.md R135). -/
@[simp] theorem getDigit_rollMask_ones (z : Bool) (v : Nat) : getDigit (rollMask z v) .ones = true := by
  have : ∀ b : Bool, getDigit (BitVec.ofBool b ++ 1#1) .ones = true := by decide
  exact this _

/-- The tens bit of a roll's mask (41_display.md R135). -/
@[simp] theorem getDigit_rollMask_tens (z : Bool) (v : Nat) :
    getDigit (rollMask z v) .tens = (decide (10 ≤ v) || !z) := by
  have : ∀ b : Bool, getDigit (BitVec.ofBool b ++ 1#1) .tens = b := by decide
  exact this _

/-- The scan finds nothing exactly when no line is asserted. -/
theorem lowestPressed_eq_none_iff (m : Lines) : lowestPressed m = none ↔ m = 0 := by
  revert m; decide

/-- The scan finds the lowest asserted line (42_input.md R152). -/
theorem lowestPressed_eq_some_iff (m : Lines) (k : Fin 6) :
    lowestPressed m = some k ↔ m.getLsbD k = true ∧ ∀ j : Fin 6, j < k → m.getLsbD j = false := by
  revert m k; decide

theorem faces_pos (d : Die) : 0 < d.faces := by cases d <;> decide

theorem faces_le_twenty (d : Die) : d.faces ≤ 20 := by cases d <;> decide

/-- A drawn value is at least 1. -/
theorem one_le_draw (n : Nat) (p : Sized) : 1 ≤ draw n p := Nat.le_add_left ..

/-- A drawn value is at most the face count. -/
theorem draw_le {n : Nat} (hn : 0 < n) (p : Sized) : draw n p ≤ n := Nat.mod_lt _ hn

/-- A roll's value fits `cur_value`: narrowing it to 7 bits loses nothing. -/
theorem toNat_shown_draw (p : Params) (k : Fin 6) (pool : Sized) :
    (BitVec.ofNat 7 (draw (buttonFaces p k) pool)).toNat = draw (buttonFaces p k) pool := by
  have h := draw_le (faces_pos p.die[k]) pool
  have := faces_le_twenty p.die[k]
  simp only [buttonFaces, BitVec.toNat_ofNat] at h ⊢
  omega

/-- The segment table has a pattern exactly for the decimal digits. -/
theorem segPattern_isSome_iff (p : Params) (k : Nat) : (segPattern p k).isSome = true ↔ k ≤ 9 := by
  unfold segPattern
  by_cases h : k < 10
  · simp [h]; omega
  · simp [h]; omega

/-- A digit is lit exactly when its mask bit is 1 and its value is a decimal digit (41_display.md R130). -/
theorem litPattern_isSome_iff (s : State) :
    (litPattern s).isSome = true ↔
      getDigit s.showMask s.activeDigit = true ∧ digitValue s.curValue s.activeDigit ≤ 9 := by
  unfold litPattern
  split <;> simp_all [segPattern_isSome_iff]

/-- The pattern of a lit digit is the table's. -/
theorem litPattern_eq (s : State) (hm : getDigit s.showMask s.activeDigit = true)
    (hv : digitValue s.curValue s.activeDigit ≤ 9) :
    litPattern s = some (s.params.segTable[digitValue s.curValue s.activeDigit]'(by omega)) := by
  simp [litPattern, hm, segPattern]

/-- A digit that is not lit has no pattern. -/
theorem litPattern_eq_none (s : State)
    (h : ¬(getDigit s.showMask s.activeDigit = true ∧ digitValue s.curValue s.activeDigit ≤ 9)) :
    litPattern s = none := by
  rw [← litPattern_isSome_iff] at h
  simpa using h

/-- A tick takes one from the count and stops at zero. -/
theorem toNat_countAfter (c : Sized) : (countAfter c).toNat = c.toNat - 1 := by
  have hw : c.bits.toNat < 2 ^ c.width := c.bits.isLt
  unfold countAfter
  by_cases hc : c.toNat > 0
  · rw [if_pos hc]
    unfold Sized.toNat at hc ⊢
    have h1 : 1 < 2 ^ c.width := by omega
    have h2 : (1 : BitVec c.width).toNat = 1 := by simp [Nat.mod_eq_of_lt h1]
    rw [BitVec.toNat_sub_of_le (by rw [BitVec.le_def]; omega), h2]
  · rw [if_neg hc]; omega

/-- `to_count` after a tick is zero exactly when one tick or none was left. -/
theorem countAfter_eq_zero_iff (c : Sized) : (countAfter c).toNat = 0 ↔ c.toNat ≤ 1 := by
  rw [toNat_countAfter]; omega

end Sys2Proof.Machine
end

