-- ==== Sys2Proof/Laws/Meanings.lean ====
section
/-! SUPPORT. What each meaning can do, said once: the cases of its answer. -/

namespace Sys2Proof.Machine

/-- The cases of ENT_TICK (40_entropy.md R100, R101). -/
theorem entTick_cases (smp v : Bool) (s : State) :
    (v = false ∧ entTick smp v s = s) ∨
    (v = true ∧ s.entValid = false ∧ entTick smp v s = s.storeSample smp) ∨
    (v = true ∧ s.entValid = true ∧ smp = s.entBit ∧ entTick smp v s = s.clearSample) ∨
    (v = true ∧ s.entValid = true ∧ smp ≠ s.entBit ∧
      entTick smp v s = (s.mixPool s.entBit).clearSample) := by
  unfold entTick
  cases v <;> cases hv : s.entValid <;> by_cases hs : smp = s.entBit <;> simp [hs]

/-- The cases of REF_TICK (41_display.md R130, R136): stopped, a lit digit, a dark digit. -/
theorem refTick_cases (s : State) :
    (s.refRun = false ∧ refTick s = s) ∨
    (s.refRun = true ∧ refTick s =
      (((s.enableDigit s.activeDigit.other false).writeSegments ((litPattern s).getD blank)).enableDigit
        s.activeDigit (litPattern s).isSome).setActive s.activeDigit.other) := by
  unfold refTick
  cases h : s.refRun
  · simp
  · exact .inr ⟨rfl, rfl⟩

/-- The cases of TO_TICK (43_power.md R172): stopped, expiry, one tick less. -/
theorem toTick_cases (s : State) :
    (s.toRun = false ∧ toTick s = s) ∨
    (s.toRun = true ∧ s.toCount.toNat ≤ 1 ∧ toTick s = s.expire) ∨
    (s.toRun = true ∧ 1 < s.toCount.toNat ∧ toTick s = s.setCount (countAfter s.toCount)) := by
  unfold toTick
  cases h : s.toRun
  · simp
  · by_cases hc : s.toCount.toNat ≤ 1
    · have h0 := (countAfter_eq_zero_iff s.toCount).mpr hc
      refine .inr (.inl ⟨rfl, hc, ?_⟩)
      simp only [h0]
      rfl
    · have h0 : (countAfter s.toCount).toNat ≠ 0 := fun h => hc ((countAfter_eq_zero_iff _).mp h)
      exact .inr (.inr ⟨rfl, by omega, if_neg h0⟩)

/-- The cases of BTN_SERVICE (42_input.md R151, R154): no edge, spurious, a roll. -/
theorem service_cases (s : State) :
    (s.btnPending = false ∧ service s = s) ∨
    (s.btnPending = true ∧ s.btnLines = 0 ∧ service s = s.setPending false) ∨
    (∃ k, s.btnPending = true ∧ lowestPressed s.btnLines = some k ∧
      service s = roll k ((s.setArmed false).setPending false)) := by
  unfold service
  cases h : s.btnPending
  · simp
  · cases hk : lowestPressed s.btnLines with
    | none =>
      refine .inr (.inl ⟨rfl, (lowestPressed_eq_none_iff _).mp hk, ?_⟩)
      simp [hk, State.setArmed, State.setPending]
    | some k => exact .inr (.inr ⟨k, rfl, rfl, by simp [hk]⟩)

/-- A roll asserts that some line is pressed. -/
theorem btnLines_ne_zero_of_scan {m : Lines} {k : Fin 6} (h : lowestPressed m = some k) : m ≠ 0 := by
  intro h0
  rw [(lowestPressed_eq_none_iff m).mpr h0] at h
  cases h

/-- A roll writes out as one update of the state (42_input.md R151). -/
theorem roll_eq (k : Fin 6) (s : State) :
    roll k s = { s with
      clkFull := .full
      curValue := BitVec.ofNat 7 (draw (buttonFaces s.params k) s.pool)
      showMask := rollMask s.params.leadingZeroBlank (draw (buttonFaces s.params k) s.pool)
      toCount := s.params.ticks
      toRun := true
      refRun := true
      powerState := .displaying } := rfl

/-- The state after a stimulus: every arm of exec answers a next state. -/
def after (i : Instr) (s : State) : State :=
  match i with
  | .ent smp v => entTick smp v s
  | .ref => refTick s
  | .tot => toTick s
  | .svc => service s
  | .btn m => setBtn m s
  | .rst => resetRegisters s

theorem exec_eq_after (i : Instr) (s : State) : exec i s = .next (after i s) := by
  cases i <;> rfl

/-- Inversion of exec: the next state is `after`. -/
theorem eq_after_of_exec {i : Instr} {s t : State} (h : exec i s = .next t) : t = after i s := by
  rw [exec_eq_after] at h
  injection h with h
  exact h.symm

/-- No meaning reads or writes the script: running a stimulus commutes with replacing it. -/
theorem after_script (i : Instr) (s : State) (ws : List Word) :
    after i { s with script := ws } = { after i s with script := ws } := by
  cases i with
  | ent smp v =>
    simp only [after, entTick]
    split_ifs <;> rfl
  | ref =>
    simp only [after, refTick]
    split_ifs <;> rfl
  | tot =>
    simp only [after, toTick]
    split_ifs <;> rfl
  | svc =>
    simp only [after, service]
    split_ifs
    · rfl
    · simp only [State.setPending_btnLines, State.setArmed_btnLines]
      cases lowestPressed s.btnLines <;> rfl
  | btn m => rfl
  | rst => rfl

end Sys2Proof.Machine
end

