-- ==== Sys2Proof/Laws/PerInstr.lean ====
section
/-! SUPPORT. Facts about every stimulus as syntax, one lemma per constructor. -/

namespace Sys2Proof.Laws

/-- The decoder gives back the stimulus that was encoded. -/
def RoundTrip.Statement (i : Instr) : Prop := decode (encode i) = some i

theorem RoundTrip.ent (smp v : Bool) : RoundTrip.Statement (.ent smp v) := by
  cases smp <;> cases v <;> rfl

theorem RoundTrip.ref : RoundTrip.Statement .ref := rfl

theorem RoundTrip.tot : RoundTrip.Statement .tot := rfl

theorem RoundTrip.svc : RoundTrip.Statement .svc := rfl

theorem RoundTrip.btn (m : Lines) : RoundTrip.Statement (.btn m) := by
  revert m
  unfold RoundTrip.Statement
  decide

theorem RoundTrip.rst : RoundTrip.Statement .rst := rfl

/-- The encoded word carries the stimulus's opcode and zeros in every must-be-zero bit (30_encoding.md R71, R76). -/
def LegalWord.Statement (i : Instr) : Prop := opField (encode i) = opcode i ∧ Word.wf (encode i) = true

theorem LegalWord.ent (smp v : Bool) : LegalWord.Statement (.ent smp v) := by
  cases smp <;> cases v <;> exact ⟨rfl, rfl⟩

theorem LegalWord.ref : LegalWord.Statement .ref := ⟨rfl, rfl⟩

theorem LegalWord.tot : LegalWord.Statement .tot := ⟨rfl, rfl⟩

theorem LegalWord.svc : LegalWord.Statement .svc := ⟨rfl, rfl⟩

theorem LegalWord.btn (m : Lines) : LegalWord.Statement (.btn m) := by
  revert m
  unfold LegalWord.Statement
  decide

theorem LegalWord.rst : LegalWord.Statement .rst := ⟨rfl, rfl⟩

end Sys2Proof.Laws
end

