-- ==== Sys2Proof/Laws/Run.lean ====
section
/-! SUPPORT. Running a script, one stimulus at a time. -/

namespace Sys2Proof.Machine

/-- Decoding an encoded stimulus, from the lemma of its constructor. -/
theorem decode_encode_of (i : Instr) : Laws.RoundTrip.Statement i := by
  cases i with
  | ent smp v => exact Laws.RoundTrip.ent smp v
  | ref => exact Laws.RoundTrip.ref
  | tot => exact Laws.RoundTrip.tot
  | svc => exact Laws.RoundTrip.svc
  | btn m => exact Laws.RoundTrip.btn m
  | rst => exact Laws.RoundTrip.rst

/-- Inversion of step: an idle step, or the presented stimulus run with its word taken off. -/
theorem step_cases {s t : State} (h : step s = .next t) :
    (s.script = [] ∧ t = s) ∨
    ∃ (w : Word) (rest : List Word) (i : Instr), s.script = w :: rest ∧ decode w = some i ∧
      t = { after i s with script := rest } := by
  unfold step State.presented at h
  cases hs : s.script with
  | nil =>
    simp only [hs, List.head?_nil] at h
    injection h with h
    exact .inl ⟨rfl, h.symm⟩
  | cons w rest =>
    simp only [hs, List.head?_cons] at h
    cases hd : decode w with
    | none => simp [hd] at h
    | some i =>
      simp only [hd] at h
      refine .inr ⟨w, rest, i, rfl, hd, ?_⟩
      rw [eq_after_of_exec h, ← after_script]
      simp [State.advance, hs]

/-- One step of a run, when the step answers a next state. -/
theorem core_run_succ {k : Nat} {s t : State} (h : step s = .next t) :
    Host.Core.run Sys2Proof.core (k + 1) s = Host.Core.run Sys2Proof.core k t := by
  have h' : Sys2Proof.core.step s = .next t := h
  rw [Host.Core.run.eq_def Sys2Proof.core (k + 1) s]
  simp only [h']

theorem runScript_nil (s : State) : runScript [] s = .next { s with script := [] } := rfl

/-- The first stimulus of a script runs, then the rest of the script from the state it leaves. -/
theorem runScript_cons (i : Instr) (is : List Instr) (s : State) :
    runScript (i :: is) s = runScript is (after i s) := by
  have hs : step (s.withScript (i :: is)) = .next ((after i s).withScript is) := by
    unfold step State.presented State.withScript
    simp only [List.map_cons, List.head?_cons, State.advance, List.tail_cons]
    rw [show decode (encode i) = some i from decode_encode_of i]
    simp only [exec_eq_after, after_script]
  exact core_run_succ hs

/-- The state after a list of stimuli. -/
def afterAll (is : List Instr) (s : State) : State := is.foldl (fun s i => after i s) s

/-- A script always runs to its end, and its end state is the fold of its stimuli. -/
theorem runScript_eq (is : List Instr) (s : State) :
    runScript is s = .next { afterAll is s with script := [] } := by
  induction is generalizing s with
  | nil => rfl
  | cons i is ih => rw [runScript_cons, ih]; rfl

end Sys2Proof.Machine
end

