-- ==== Sys2Proof/Tests/Slice0.lean ====
section
/-! SUPPORT. Tests of the model against the values spec/95_test_vectors.md and the rules' examples give, the smoke tests of WellFormed, and a witness for the hypotheses of each statement. -/

namespace Sys2Proof.Tests

open Sys2Proof Sys2Proof.Machine

/-! ### WellFormed -/

/-- The build of 95_test_vectors.md: `TIMEOUT_TICKS` = 3. -/
def vectorParams : Params := { Params.default with timeoutTicks := 3 }

theorem smoke_default_build_is_legal : Params.default.wf = true ∧ vectorParams.wf = true := by decide

/-- R7: `POOL_W` is at least 24, and a 24-bit build is legal (the seed of V-MIX-13). -/
theorem smoke_narrow_pool_refused : Params.widthLegal { Params.default with poolW := 23, poolSeed := 0x123456 } = false ∧
    State.build { Params.default with poolW := 23, poolSeed := 0x123456 } = none ∧
    Params.wf { Params.default with poolW := 24, poolSeed := 0x123456 } = true := by decide

/-- R7: `POOL_SEED` is a `POOL_W`-bit value. -/
theorem smoke_wide_seed_refused : Params.seedLegal { Params.default with poolW := 24 } = false ∧
    State.build { Params.default with poolW := 24 } = none := by decide

/-- R233: a build with `POOL_SEED` = 0 is refused. -/
theorem smoke_zero_seed_refused : Params.seedLegal { Params.default with poolSeed := 0 } = false ∧
    State.build { Params.default with poolSeed := 0 } = none := by decide

/-- R7: `TIMEOUT_TICKS` is at most 2^`TO_CNT_W` − 1. -/
theorem smoke_long_timeout_refused : Params.timeoutLegal { Params.default with toCntW := 2, timeoutTicks := 4 } = false ∧
    State.build { Params.default with toCntW := 2, timeoutTicks := 4 } = none ∧
    Params.wf { Params.default with toCntW := 2, timeoutTicks := 3 } = true := by decide

/-- R7: `TIMEOUT_TICKS` is at least 1. -/
theorem smoke_zero_timeout_refused : Params.timeoutLegal { Params.default with timeoutTicks := 0 } = false ∧
    State.build { Params.default with timeoutTicks := 0 } = none := by decide

/-- R76: a reserved opcode, and a must-be-zero bit of formats N, E and B. -/
theorem smoke_reserved_words_refused : Word.wf 0x0000 = false ∧ Word.wf 0x0007 = false ∧
    Word.wf 0x0012 = false ∧ Word.wf 0x0041 = false ∧ Word.wf 0x0405 = false := by decide

/-! ### Decoding: V-DEC-1 to V-DEC-12, R78 -/

theorem test_decode_ent : decode 0b0000000000100001 = some (.ent false true) ∧
    decode 0b0000000000110001 = some (.ent true true) ∧
    decode 0b0000000000000001 = some (.ent false false) ∧
    decode 0b0000000000010001 = some (.ent true false) := by decide

theorem test_decode_ref : decode 0b0000000000000010 = some .ref := by decide

theorem test_decode_tot : decode 0b0000000000000011 = some .tot := by decide

theorem test_decode_svc : decode 0b0000000000000100 = some .svc := by decide

theorem test_decode_btn : decode 0b0000000000000101 = some (.btn 0b000000) ∧
    decode 0b0000000000100101 = some (.btn 0b000010) ∧
    decode 0b0000001111110101 = some (.btn 0b111111) := by decide

theorem test_decode_rst : decode 0b0000000000000110 = some .rst := by decide

theorem test_decode_reserved : decode 0x0000 = none ∧ decode 0x0007 = none ∧ decode 0x000F = none ∧
    decode 0xFFFF = none ∧ decode 0x0041 = none ∧ decode 0x8001 = none ∧ decode 0x0012 = none ∧
    decode 0x0106 = none ∧ decode 0x0405 = none := by decide

/-- P1 to P3: `btn 0b101100` is 0x02C5, `btn 0b010000` is 0x0105, `btn 0b100000` is 0x0205. -/
theorem test_encode_btn : encode (.btn 0b101100) = 0x02C5 ∧ encode (.btn 0b010000) = 0x0105 ∧
    encode (.btn 0b100000) = 0x0205 := by decide

theorem test_table_word : decodeTableWord 16 0x0025 = some (.btn 0b000010) ∧
    decodeTableWord 16 0x0405 = none := by decide

/-! ### Pool functions: V-MIX, V-DRAW -/

/-- V-MIX-2, V-MIX-5, V-MIX-6, V-MIX-13 (24 bits), V-MIX-15 (24 bits). -/
theorem test_mix : mix true (.of 32 0x12345678) = .of 32 0x091A2B3C ∧
    mix false (.of 32 0x00000008) = .of 32 0x80000004 ∧ mix false (.of 32 0x00000009) = .of 32 0x00000004 ∧
    mix false (.of 24 0x123456) = .of 24 0x091A2B ∧ mix true (.of 24 0x000008) = .of 24 0x000004 := by decide

/-- V-DRAW-4 and V-DRAW-6. -/
theorem test_draw :
    [Die.d4, .d6, .d8, .d10, .d12, .d20].map (fun d => draw d.faces (.of 32 0xFFFFFFFF)) = [4, 4, 8, 6, 4, 16] ∧
    [Die.d4, .d6, .d8, .d10, .d12, .d20].map (fun d => draw d.faces (.of 32 0x00000013)) = [4, 2, 4, 10, 8, 20] := by
  decide

/-! ### One step of each stimulus -/

/-- The vectors' state "from reset". -/
def start : State := State.powerOn vectorParams

/-- A displaying state in the vectors' build. -/
def shown (value : Shown) (mask : DigitSet) (d : Digit) (count : Nat) : State :=
  { start with
    curValue := value, showMask := mask, activeDigit := d, powerState := .displaying, btnArmed := false,
    refRun := true, toRun := true, toCount := .of 16 count, clkFull := .full }

/-- V-ENT-2, its second tick: the pending 1 is emitted on a 0. -/
theorem test_ent_emits :
    (entTick false true { start with entValid := true, entBit := true }).pool = .of 32 0x091A2B3C ∧
    (entTick false true { start with entValid := true, entBit := true }).entValid = false := by decide

/-- V-MIX-13 through ENT_TICK, in a 24-bit build: an emission of 0. -/
theorem test_ent_emits_24 :
    let s := State.powerOn { Params.default with poolW := 24, poolSeed := 0x123456 }
    (entTick true true { s with entValid := true, entBit := false }).pool = .of 24 0x091A2B := by decide

/-- V-ENT-8, its second tick: an invalid sample keeps the pending one. -/
theorem test_ent_invalid :
    exec (.ent true false) { start with entValid := true, entBit := false } =
      .next { start with entValid := true, entBit := false } := rfl

/-- V-REF-4: the tens digit of 12, the ones digit enabled before. -/
theorem test_ref_tens :
    let t := refTick { shown 12 0b11 .tens 3 with digOn := 0b01, segN := 0x55 }
    t.segN = 0x79 ∧ t.digOn = 0b10 ∧ t.activeDigit = .ones := by decide

/-- V-REF-11: the tens value 12 of 127 is out of range and dark. -/
theorem test_ref_out_of_range :
    let t := refTick { shown 127 0b11 .tens 3 with digOn := 0b01, segN := 0x55 }
    t.segN = 0x7F ∧ t.digOn = 0b00 ∧ t.activeDigit = .ones := by decide

/-- V-TOT-2: one tick less and nothing else. -/
theorem test_tot_counts :
    let s := { shown 20 0b11 .ones 2 with digOn := 0b10, segN := 0x24 }
    toTick s = { s with toCount := .of 16 1 } := by decide

/-- V-TOT-4: a running countdown at 0 expires. -/
theorem test_tot_expires_at_zero :
    let t := toTick { shown 20 0b11 .ones 0 with digOn := 0b10, segN := 0x24 }
    t.powerState = .idle ∧ t.btnArmed = true ∧ t.digOn = 0b00 ∧ t.segN = 0x7F ∧ t.curValue = 20 := by decide

/-- V-DRAW-6 with R152: lines 3 and 5 pressed, the d10 of button 3 is drawn, not the d20. -/
theorem test_svc_lowest_index :
    let t := service { start with btnPending := true, btnLines := 0b101000, pool := .of 32 0x00000013 }
    t.curValue = 10 ∧ t.showMask = 0b11 ∧ t.powerState = .displaying ∧ t.toCount = .of 16 3 ∧ t.btnArmed = false ∧
      t.segN = 0x7F := by decide

/-- V-SVC-8: a spurious service clears the pending flag and nothing else. -/
theorem test_svc_spurious : service { start with btnPending := true } = start := by decide

/-- V-BTN-3: a release is an edge. -/
theorem test_btn_release :
    setBtn 0b000000 { start with btnLines := 0b000010 } =
      { start with btnPending := true, btnLines := 0b000000 } := by decide

/-- V-BTN-4: no edge is detected while disarmed. -/
theorem test_btn_disarmed :
    setBtn 0b000001 { start with btnArmed := false } =
      { start with btnArmed := false, btnLines := 0b000001 } := by decide

/-- V-RST-2: RESET from a displaying state keeps the button lines. -/
theorem test_rst_keeps_lines :
    resetRegisters { shown 12 0b11 .tens 3 with pool := .of 32 0x42468ACF, btnLines := 0b100000, segN := 0x24, digOn := 0b01 } =
      { start with btnLines := 0b100000 } := by decide

/-- P1 line 2, through step: the word 0x0025 presented at reset. -/
theorem test_step_btn :
    step (start.withFetchWord 16 0x0025) = .next { start with btnLines := 0b000010, btnPending := true } := rfl

/-! ### Script text: R78, R79 -/

theorem test_assemble_btn :
    assembleLine ['b', 't', 'n', ' ', '0', 'b', '0', '0', '0', '0', '1', '0', ' ', ';', 'd', '6'] =
      some [.btn 0b000010] ∧ assembleLine ['b', 't', 'n', ' ', '6', '3'] = some [.btn 0b111111] ∧
    assembleLine ['b', 't', 'n', ' ', '6', '4'] = none := by decide

theorem test_assemble_pseudo :
    assembleLine ['p', 'r', 'e', 's', 's', ' ', '5'] = some [.btn 0b100000, .svc] ∧
    assembleLine ['w', 'a', 'i', 't', ' ', '3'] = some [.tot, .tot, .tot] ∧
    assembleLine ['p', 'a', 'i', 'r', ' ', '0', ' ', '1'] = some [.ent false true, .ent true true] ∧
    assembleLine ['p', 'r', 'e', 's', 's', ' ', '6'] = none := by decide

/-- R80: a refresh is realisable after a roll and not before. -/
theorem test_realisable : realisable (press 1 ++ frame ++ wait 3) start = true ∧
    realisable (.ref :: press 1) start = false := by decide

/-- R208: everything due at once. -/
theorem test_serve_order : Due.serve ⟨true, true, true, some (true, true), true⟩ =
    [.rst, .svc, .tot, .ent true true, .ref] := by decide

/-! ### Witnesses: states and operands that meet the hypotheses of the statements -/

theorem witness_DecodingIsTotalAndReservedIsRefused :
    (opField 0x0031 = 0x1 ∧ BitVec.extractLsb' 6 10 (0x0031 : Word) = 0) ∧
    (opField 0x0002 = 0x2 ∧ BitVec.extractLsb' 4 12 (0x0002 : Word) = 0) ∧
    (opField 0x0003 = 0x3 ∧ BitVec.extractLsb' 4 12 (0x0003 : Word) = 0) ∧
    (opField 0x0004 = 0x4 ∧ BitVec.extractLsb' 4 12 (0x0004 : Word) = 0) ∧
    (opField 0x03F5 = 0x5 ∧ BitVec.extractLsb' 10 6 (0x03F5 : Word) = 0) ∧
    (opField 0x0006 = 0x6 ∧ BitVec.extractLsb' 4 12 (0x0006 : Word) = 0) ∧
    decode 0x0041 = none ∧ (start.present 0x0041).script = 0x0041 :: [] := by decide

theorem witness_StepRunsPresentedStimulus :
    (start.present 0x0004).script = 0x0004 :: [] ∧ decode 0x0004 = some .svc ∧ start.script = [] := by decide

/-- A state in which button 1 is pressed and its edge pending. -/
def pressed : State := { start with btnPending := true, btnLines := 0b000010 }

theorem pressed_inv : pressed.Inv ∧ rolls .svc pressed ∧ pressed.powerState = .idle := by decide

theorem shown_inv : (shown 20 0b11 .ones 3).Inv := by decide

theorem shown_inv_one : (shown 1 0b01 .ones 1).Inv := by decide

theorem witness_EntTickDebiases :
    start.entValid = false ∧ start.pool = .of 32 0x12345678 ∧
    ({ start with entValid := true, entBit := true } : State).entValid = true ∧
    true = ({ start with entValid := true, entBit := true } : State).entBit ∧
    false ≠ ({ start with entValid := true, entBit := true } : State).entBit := by decide

theorem witness_EmissionTableOfSamplePairs :
    start.entValid = false ∧
      ∀ i ∈ [Instr.ent true false, .svc, .ref], i ≠ .rst ∧ ∀ x, i ≠ .ent x true := by decide

theorem witness_EntTickIsIndependent :
    exec (.ent true true) start = .next { start with entBit := true, entValid := true } ∧
    ∃ s' : State, s' ≠ start ∧ s'.entValid = start.entValid ∧ s'.entBit = start.entBit ∧ s'.pool = start.pool :=
  ⟨rfl, shown 12 0b11 .tens 1, by decide⟩

theorem witness_MixShiftsInTheFeedbackBit : 24 ≤ (Sized.of 24 0x123456).width ∧ 0 + 1 < 24 ∧ 22 + 1 < 24 ∧
    ∃ s t : State, exec (.ent false true) s = .next t ∧ t.pool ≠ s.pool ∧ emission false true s = some true :=
  ⟨by decide, by decide, by decide, { start with entValid := true, entBit := true }, _, rfl, by decide, by decide⟩

theorem witness_PoolChangesOnlyByMixAndReset :
    exec .rst start = .next (resetRegisters start) ∧
    emission false true { start with entValid := true, entBit := true } = some true ∧
    emission true true { start with entValid := true, entBit := true } = none :=
  ⟨rfl, by decide, by decide⟩

theorem witness_EntropyDependsOnEntropyTicksAlone : Instr.rst ∉ [Instr.ent true true, .svc, .ent false true] := by
  decide

theorem witness_DrawStaysInRange :
    exec .svc pressed = .next (service pressed) ∧ (service pressed).curValue ≠ pressed.curValue :=
  ⟨rfl, by decide⟩

theorem witness_DrawCountsPerResult : 1 ≤ 1 ∧ 1 ≤ Die.d4.faces ∧ 1 ≤ 20 ∧ 20 ≤ Die.d20.faces := by decide

theorem witness_MixZeroIsABijection : 24 ≤ 24 ∧ (0x123456 : BitVec 24) ≠ 0 ∧ 24 ≤ 32 ∧ (0x12345678 : BitVec 32) ≠ 0 := by
  decide

theorem witness_RefTickDrivesTheActiveDigit :
    start.refRun = false ∧
    (let s := shown 12 0b11 .tens 3;
      s.refRun = true ∧ getDigit s.showMask s.activeDigit = true ∧ digitValue s.curValue s.activeDigit ≤ 9 ∧
      s.params.segTable = segTableDefault ∧ s.curValue = 12 ∧ s.showMask = 0b11 ∧ s.activeDigit = .tens) ∧
    (let s := shown 99 0b11 .ones 3;
      s.refRun = true ∧ getDigit s.showMask s.activeDigit = true ∧ digitValue s.curValue s.activeDigit = 9) ∧
    (let s := shown 100 0b11 .tens 3;
      s.refRun = true ∧
        ¬(getDigit s.showMask s.activeDigit = true ∧ digitValue s.curValue s.activeDigit ≤ 9)) ∧
    pressed.Inv ∧ rolls .svc pressed ∧ Instr.ref ∉ [Instr.ent true true, .btn 0b000001, .tot] := by decide

theorem witness_DigitsRecomposeTheValue :
    (99 : Shown).toNat ≤ 99 ∧ 100 ≤ (100 : Shown).toNat ∧ 100 ≤ (127 : Shown).toNat ∧
      (service pressed).curValue ≠ pressed.curValue := by decide

theorem witness_OutOfRangeDigitIsDark :
    (let s := shown 100 0b11 .tens 3;
      s.refRun = true ∧ 10 ≤ digitValue s.curValue s.activeDigit) ∧
    (shown 20 0b11 .tens 3).Inv ∧ (shown 20 0b11 .tens 3).refRun = true := by decide

theorem witness_OneDigitEnabledAtATime :
    ∃ s t : State, s.Inv4 ∧ step s = .next t ∧ s.refRun = true ∧ s.digOn = 0b01 ∧ t.digOn = 0b10 :=
  ⟨{ shown 12 0b11 .tens 3 with digOn := 0b01, script := [0x0002] }, _, by decide, rfl, by decide, by decide,
    by decide⟩

theorem witness_ShowMaskBlanksTheLeadingZero :
    (let s := shown 6 0b01 .tens 3;
      s.refRun = true ∧ getDigit s.showMask s.activeDigit = false) ∧ rolls .svc pressed ∧
    10 ≤ (service { pressed with btnLines := 0b100000 }).curValue.toNat ∧
    (service pressed).curValue.toNat ≤ 9 := by decide

theorem witness_RefreshActsOnlyWhileRunning : start.Inv ∧ start.refRun = false ∧
    exec .svc pressed = .next (service pressed) ∧ rolls .svc pressed ∧ expires .tot (shown 6 0b01 .ones 1) ∧
    Instr.svc ≠ .ref ∧ ¬expires .svc pressed ∧ Instr.svc ≠ .rst ∧ ¬rolls .svc start :=
  ⟨by decide, by decide, rfl, by decide⟩

theorem witness_FrameShowsBothDigits :
    let s := shown 99 0b11 .ones 3
    s.refRun = true ∧ s.showMask = 0b11 ∧ s.curValue.toNat ≤ 99 := by decide

theorem witness_RefreshPhasesDoNotGhost :
    let s := { shown 12 0b11 .tens 3 with digOn := 0b01 }
    s.DrivenDigitOff ∧ s.refRun = true := by decide

theorem witness_DrivenDigitStaysOff :
    ∃ s t : State, s.DrivenDigitOff ∧ step s = .next t ∧ t ≠ s :=
  ⟨{ shown 12 0b11 .tens 3 with digOn := 0b01, script := [0x0002] }, _, by decide, rfl, by decide⟩

theorem witness_SetBtnDetectsEdgesWhileArmed :
    start.btnArmed = true ∧ (0b000010 : Lines) ≠ start.btnLines ∧ (0b000000 : Lines) = start.btnLines ∧
      (shown 6 0b01 .ones 3).btnArmed = false := by decide

theorem witness_PendingFlagIsSetByArmedEdgesOnly :
    start.btnPending = false ∧ (setBtn 0b000010 start).btnPending = true ∧ start.btnArmed = true ∧
    pressed.btnPending = true ∧ (service pressed).btnPending = false ∧ expires .tot (shown 6 0b01 .ones 1) := by
  decide

theorem witness_ServiceRollsTheLowestPressedButton :
    start.btnPending = false ∧
    (let s := { pressed with btnLines := 0b000000 };
      s.btnPending = true ∧ s.btnLines = 0b000000) ∧
    (let s := { pressed with btnLines := 0b100000 };
      s.btnPending = true ∧ s.btnLines.getLsbD (5 : Fin 6) = true ∧
        ∀ j : Fin 6, j < 5 → s.btnLines.getLsbD j = false) ∧
    (let s := { pressed with btnLines := 0b111111 };
      s.btnPending = true ∧ s.btnLines.getLsbD (0 : Fin 6) = true ∧
        ∀ j : Fin 6, j < 0 → s.btnLines.getLsbD j = false) ∧
    (let s := { pressed with params := Params.default };
      s.params = Params.default ∧ s.pool = .of 32 0x12345678 ∧ s.btnPending = true ∧ s.btnLines = 0b000010) := by decide

theorem witness_ButtonIndexNamesTheDie :
    let s := { pressed with btnLines := 0b101100 }
    s.params.die = dieDefault ∧ s.btnPending = true ∧ s.btnLines.getLsbD (2 : Fin 6) = true ∧
      ∀ j : Fin 6, s.btnLines.getLsbD j = true → 2 ≤ j := by decide

theorem witness_SpuriousServiceClearsTheFlagOnly :
    let s := { start with btnPending := true }
    s.btnPending = true ∧ s.btnLines = 0b000000 := by decide

/-- V-SVC-10's forced state. -/
theorem witness_RollWhileDisplayingRestartsButIsUnreachable :
    (let s := { shown 12 0b11 .ones 2 with btnPending := true, btnLines := 0b000001 };
      rolls .svc s ∧ s.powerState = .displaying ∧ s.refRun = true) ∧
    (shown 12 0b11 .ones 2).Inv ∧ (shown 12 0b11 .ones 2).powerState = .displaying := by decide

theorem witness_DebounceHoldsUntilExpiry :
    let s := shown 6 0b01 .ones 1
    s.btnArmed = false ∧ s.btnPending = false ∧ expires .tot s ∧ (toTick s).btnArmed = true := by decide

theorem witness_PressRollsTheDie :
    start.Inv ∧ start.powerState = .idle ∧ start.btnLines ≠ 1#6 <<< (5 : Fin 6).val := by decide

/-- A press and a release while armed are two edges, though the lines end as they began; no edge while disarmed, or
when no mask differs from the lines. -/
theorem witness_GatedStimuliAndCoalescedEdges :
    start.refRun = false ∧ start.toRun = false ∧ start.btnPending = false ∧
    (start.btnArmed = true ∧ ∃ m ∈ ([0b000010, 0b000000] : List Lines), m ≠ start.btnLines) ∧
    pressed.btnPending = true ∧ (shown 6 0b01 .ones 3).btnArmed = false ∧
    ∀ m ∈ ([0b000000, 0b000000] : List Lines), m = start.btnLines := by decide

theorem witness_ToTickCountsDown :
    start.toRun = false ∧
    (let s := shown 6 0b01 .ones 2;
      s.toRun = true ∧ 2 ≤ s.toCount.toNat ∧ s.toCount.toNat = 1 + 1) ∧
    (let s := shown 6 0b01 .ones 1;
      s.toRun = true ∧ s.toCount.toNat ≤ 1 ∧ s.toCount.toNat = 0 + 1) := by decide

theorem witness_ExpiryReturnsToIdle :
    (shown 6 0b01 .ones 0).toRun = true ∧ (shown 6 0b01 .ones 0).toCount.toNat ≤ 1 := by decide

theorem witness_CountdownExpiresOnTheLastTick :
    pressed.params.wf = true ∧ rolls .svc pressed ∧ exec .svc pressed = .next (service pressed) ∧
    (let s := shown 6 0b01 .ones 3;
      let is := [Instr.tot, .ref, .btn 0b000001, .svc, .tot]
      s.Inv ∧ s.powerState = .displaying ∧ Instr.rst ∉ is ∧ is.count .tot < s.toCount.toNat ∧
        is.count .tot + 1 = s.toCount.toNat) := ⟨by decide, by decide, rfl, by decide⟩

theorem witness_PowerStateTransitions :
    rolls .svc pressed ∧ expires .tot (shown 6 0b01 .ones 1) ∧
      ¬rolls .ref start ∧ ¬expires .ref start ∧ Instr.ref ≠ .rst := by decide

/-- For each of the two power states, a state that power-on or a step from the invariant gives. -/
theorem witness_RegistersGoWithThePowerState :
    (vectorParams.wf = true ∧ (State.powerOn vectorParams).powerState = .idle) ∧
    (∃ s t : State, s.Inv ∧ step s = .next t ∧ t.powerState = .displaying) ∧
    ∃ s t : State, s.Inv ∧ step s = .next t ∧ s.powerState = .displaying ∧ t.powerState = .idle :=
  ⟨by decide, ⟨{ pressed with script := [0x0004] }, _, by decide, rfl, by decide⟩,
    { shown 6 0b01 .ones 1 with script := [0x0003] }, _, by decide, rfl, by decide, by decide⟩

theorem witness_ClockRequestAffectsNothing :
    exec .svc pressed = .next (service pressed) ∧ rolls .svc pressed ∧ expires .tot (shown 6 0b01 .ones 1) :=
  ⟨rfl, by decide, by decide⟩

theorem witness_PowerOnIsAReset :
    start.params = vectorParams ∧ start.btnLines = vectorParams.btnInit ∧ start.script = [] := by decide

theorem witness_PowerOnSatisfiesInvariant : vectorParams.wf = true := by decide

theorem witness_StepKeepsInvariant : ∃ s t : State, s.Inv ∧ step s = .next t ∧ t.powerState ≠ s.powerState :=
  ⟨{ pressed with script := [0x0004] }, _, by decide, rfl, by decide⟩

theorem witness_EveryScriptIsAccepted : enabled start .ref = false ∧ enabled start .svc = false := by decide

theorem witness_RegistersHaveOnlyTheirWriters :
    ∃ s s' : State, exec .ref s = .next (refTick s) ∧ s'.params = s.params ∧ s'.pool ≠ s.pool ∧
      (s.curValue, s.showMask, s.refRun, s.activeDigit, s.segN, s.digOn) =
        (s'.curValue, s'.showMask, s'.refRun, s'.activeDigit, s'.segN, s'.digOn) :=
  ⟨shown 12 0b11 .ones 3, { shown 12 0b11 .ones 3 with pool := .of 32 1 }, rfl, by decide⟩

theorem witness_ParametersAreConstant : ∃ s t : State, step s = .next t ∧ t ≠ s :=
  ⟨{ pressed with script := [0x0004] }, _, rfl, by decide⟩

/-- Two pools that draw the same and differ. On button 1's d6, 0x12345678 and 0x00000000 do (V-DRAW-1, V-DRAW-2), though
they differ on the d10, so the premise asks it of the rolled die alone; pools that differ by 120 do on every die. -/
theorem witness_EntropyReachesOutputsThroughDrawOnly :
    rolls .svc pressed ∧ pressed.pool = .of 32 0x12345678 ∧
    (∀ k : Fin 6, pressed.btnLines.getLsbD k = true → (∀ j : Fin 6, j < k → pressed.btnLines.getLsbD j = false) →
      draw (pressed.params.die[k]).faces (.of 32 0x00000000) = draw (pressed.params.die[k]).faces pressed.pool) ∧
    draw Die.d10.faces (.of 32 0x00000000) ≠ draw Die.d10.faces pressed.pool ∧
    ∀ k : Fin 6, draw (pressed.params.die[k]).faces (.of 32 (0x12345678 + 120)) =
      draw (pressed.params.die[k]).faces pressed.pool := by decide

theorem witness_ShownPairComesFromOneRoll :
    ∃ s t : State, s.Coherent ∧ step s = .next t ∧ s.powerState ≠ .displaying ∧ t.powerState = .displaying :=
  ⟨{ pressed with script := [0x0004] }, _, by decide, rfl, by decide, by decide⟩

theorem witness_ExpiryBlanksBeforeARefreshOfTheSameCycle :
    let s := shown 12 0b11 .tens 1
    let d : Due := ⟨false, true, true, some (true, true), true⟩
    s.Inv ∧ s.powerState = .displaying ∧ s.toCount.toNat = 1 ∧ d.tot = true ∧ d.rst = false := by decide

end Sys2Proof.Tests
end

/-! The family of 10_state.md: who writes each register and what an operation reads (R31, R38, R44).
The laws come first (one per event that writes, one per register written), then the three obligations. -/

namespace Sys2Proof.Machine

/-! ### Events: what a roll, an expiry and the ticks and services without one leave -/

/-- Clearing a clear flag, or setting a set one, changes nothing. -/
theorem State.setPending_eq_self {s : State} {b : Bool} (h : s.btnPending = b) : s.setPending b = s := by
  subst h; rfl

/-- A rolling service is a pending edge and a scan that finds a line (42_input.md R151, R152). -/
theorem rolls_svc_iff (s : State) :
    rolls .svc s ↔ s.btnPending = true ∧ ∃ k, lowestPressed s.btnLines = some k := by
  rw [← Option.ne_none_iff_exists']
  simp [rolls, lowestPressed_eq_none_iff]

/-- A service that finds line `k` rolls it, disarmed and with the edge cleared (42_input.md R151). -/
theorem service_of_scan {s : State} {k : Fin 6} (hp : s.btnPending = true)
    (hk : lowestPressed s.btnLines = some k) : service s = roll k ((s.setArmed false).setPending false) := by
  rcases service_cases s with ⟨hp', -⟩ | ⟨-, hz, -⟩ | ⟨j, -, hj, e⟩
  · simp [hp] at hp'
  · exact absurd hz (btnLines_ne_zero_of_scan hk)
  · rw [hk] at hj
    injection hj with hj
    rw [e, hj]

/-- A service that does not roll clears the pending edge and does no more (42_input.md R154). -/
theorem service_of_not_rolls {s : State} (h : ¬rolls .svc s) : service s = s.setPending false := by
  rcases service_cases s with ⟨hp, e⟩ | ⟨-, -, e⟩ | ⟨k, hp, hk, -⟩
  · rw [e, State.setPending_eq_self hp]
  · exact e
  · exact absurd ((rolls_svc_iff s).mpr ⟨hp, k, hk⟩) h

/-- The last tick of a running countdown expires (43_power.md R172). -/
theorem toTick_of_expires {s : State} (h : expires .tot s) : toTick s = s.expire := by
  obtain ⟨-, hrun, hcount⟩ := h
  rcases toTick_cases s with ⟨hr, -⟩ | ⟨-, -, e⟩ | ⟨-, hc, -⟩
  · simp [hrun] at hr
  · exact e
  · omega

/-- A tick that does not expire writes the count and nothing else (43_power.md R172). -/
theorem toTick_of_not_expires {s : State} (h : ¬expires .tot s) :
    toTick s = s.setCount (if s.toRun = true then countAfter s.toCount else s.toCount) := by
  rcases toTick_cases s with ⟨hr, e⟩ | ⟨hr, hc, -⟩ | ⟨hr, -, e⟩
  · rw [e, if_neg (by simp [hr])]
    rfl
  · exact absurd ⟨rfl, hr, hc⟩ h
  · rw [e, if_pos hr]

/-! ### The registers ENT_TICK and REF_TICK write, as functions of the registers they read -/

theorem entTick_entValid (smp v : Bool) (s : State) : (entTick smp v s).entValid = (v ^^ s.entValid) := by
  rcases entTick_cases smp v s with ⟨hv, e⟩ | ⟨hv, h, e⟩ | ⟨hv, h, -, e⟩ | ⟨hv, h, -, e⟩
  · rw [e, hv, Bool.false_xor]
  all_goals
    rw [e, hv, h]
    rfl

theorem entTick_entBit (smp v : Bool) (s : State) :
    (entTick smp v s).entBit = if v = true ∧ s.entValid = false then smp else s.entBit := by
  rcases entTick_cases smp v s with ⟨hv, e⟩ | ⟨hv, h, e⟩ | ⟨hv, h, -, e⟩ | ⟨hv, h, -, e⟩
  · rw [e, if_neg (by simp [hv])]
  · rw [e, if_pos ⟨hv, h⟩, State.storeSample_entBit]
  all_goals
    rw [e, if_neg (by simp [h])]
    rfl

theorem entTick_pool (smp v : Bool) (s : State) :
    (entTick smp v s).pool = (emission smp v s).elim s.pool (mix · s.pool) := by
  rcases entTick_cases smp v s with ⟨hv, e⟩ | ⟨-, h, e⟩ | ⟨-, -, hb, e⟩ | ⟨hv, h, hb, e⟩
  · rw [e, emission, if_neg (by simp [hv]), Option.elim_none]
  · rw [e, emission, if_neg (by simp [h]), Option.elim_none, State.storeSample_pool]
  · rw [e, emission, if_neg (by simp [hb]), Option.elim_none, State.clearSample_pool]
  · rw [e, emission, if_pos (by simp [hv, h, hb]), Option.elim_some]
    rfl

theorem refTick_activeDigit (s : State) :
    (refTick s).activeDigit = if s.refRun = true then s.activeDigit.other else s.activeDigit := by
  rcases refTick_cases s with ⟨h, e⟩ | ⟨h, e⟩ <;> simp [e, h]

theorem refTick_segN (s : State) :
    (refTick s).segN = if s.refRun = true then (litPattern s).getD blank else s.segN := by
  rcases refTick_cases s with ⟨h, e⟩ | ⟨h, e⟩ <;> simp [e, h]

theorem refTick_digOn (s : State) :
    (refTick s).digOn =
      if s.refRun = true then
        setDigit (setDigit s.digOn s.activeDigit.other false) s.activeDigit (litPattern s).isSome
      else s.digOn := by
  rcases refTick_cases s with ⟨h, e⟩ | ⟨h, e⟩ <;> simp [e, h]

/-- What a refresh lights depends on the shown pair, the driven digit and the table (41_display.md R130). -/
theorem litPattern_congr {s s' : State} (hp : s'.params = s.params) (hv : s.curValue = s'.curValue)
    (hm : s.showMask = s'.showMask) (hd : s.activeDigit = s'.activeDigit) : litPattern s = litPattern s' := by
  simp only [litPattern, hp, hv, hm, hd]

/-! ### Write frames: an operation leaves the registers it does not own (10_state.md R44) -/

theorem entTick_frame (smp v : Bool) (s : State) {r : Reg} (hr : r ∉ mayWrite (.ent smp v)) :
    sameReg s (entTick smp v s) r := by
  rcases entTick_cases smp v s with ⟨-, e⟩ | ⟨-, -, e⟩ | ⟨-, -, -, e⟩ | ⟨-, -, -, e⟩
  all_goals
    rw [e]
    cases r <;> simp [mayWrite, sameReg] at hr ⊢

theorem refTick_frame (s : State) {r : Reg} (hr : r ∉ mayWrite .ref) : sameReg s (refTick s) r := by
  rcases refTick_cases s with ⟨-, e⟩ | ⟨-, e⟩
  all_goals
    rw [e]
    cases r <;> simp [mayWrite, sameReg] at hr ⊢

theorem toTick_frame (s : State) {r : Reg} (hr : r ∉ mayWrite .tot) : sameReg s (toTick s) r := by
  rcases toTick_cases s with ⟨-, e⟩ | ⟨-, -, e⟩ | ⟨-, -, e⟩
  all_goals
    rw [e]
    cases r <;> simp [mayWrite, sameReg] at hr ⊢

theorem service_frame (s : State) {r : Reg} (hr : r ∉ mayWrite .svc) : sameReg s (service s) r := by
  rcases service_cases s with ⟨-, e⟩ | ⟨-, -, e⟩ | ⟨k, -, -, e⟩
  all_goals
    rw [e]
    cases r <;> simp [mayWrite, sameReg, roll_eq] at hr ⊢

theorem setBtn_frame (m : Lines) (s : State) {r : Reg} (hr : r ∉ mayWrite (.btn m)) :
    sameReg s (setBtn m s) r := by
  cases r <;> simp [mayWrite, sameReg, setBtn] at hr ⊢

/-- RESET owns every register but the button lines. -/
theorem resetRegisters_frame (s : State) {r : Reg} (hr : r ∉ mayWrite .rst) :
    sameReg s (resetRegisters s) r := by
  cases r <;> simp [mayWrite, sameReg, resetRegisters] at hr ⊢

/-- The write half of the ownership table. -/
theorem after_frame (i : Instr) (s : State) {r : Reg} (hr : r ∉ mayWrite i) : sameReg s (after i s) r := by
  cases i with
  | ent smp v => exact entTick_frame smp v s hr
  | ref => exact refTick_frame s hr
  | tot => exact toTick_frame s hr
  | svc => exact service_frame s hr
  | btn m => exact setBtn_frame m s hr
  | rst => exact resetRegisters_frame s hr

/-! ### Read independence: what is left in the written registers depends on the owned and the read ones -/

section Agreement

/-- Two states of one build that hold the same in the registers the table lets `i` read or write. -/
def AgreeFor (i : Instr) (s s' : State) : Prop :=
  s'.params = s.params ∧ ∀ r ∈ onlyReads i ++ mayWrite i, sameReg s s' r

variable {s s' : State}

theorem entTick_agree {smp v : Bool} (h : AgreeFor (.ent smp v) s s') :
    ∀ r ∈ mayWrite (.ent smp v), sameReg (entTick smp v s) (entTick smp v s') r := by
  obtain ⟨-, h⟩ := h
  simp only [onlyReads, mayWrite, List.nil_append, List.forall_mem_cons, sameReg] at h ⊢
  obtain ⟨hvalid, hbit, hpool, -⟩ := h
  simp [entTick_entValid, entTick_entBit, entTick_pool, emission, hvalid, hbit, hpool]

theorem refTick_agree (h : AgreeFor .ref s s') : ∀ r ∈ mayWrite .ref, sameReg (refTick s) (refTick s') r := by
  obtain ⟨hp, h⟩ := h
  simp only [onlyReads, mayWrite, List.cons_append, List.nil_append, List.forall_mem_cons, sameReg] at h ⊢
  obtain ⟨hvalue, hmask, hrun, hactive, hseg, hdig, -⟩ := h
  have hlit := litPattern_congr hp hvalue hmask hactive
  simp [refTick_activeDigit, refTick_segN, refTick_digOn, hlit, hrun, hactive, hseg, hdig]

theorem toTick_agree (h : AgreeFor .tot s s') : ∀ r ∈ mayWrite .tot, sameReg (toTick s) (toTick s') r := by
  obtain ⟨hp, h⟩ := h
  simp only [onlyReads, mayWrite, List.nil_append, List.forall_mem_cons, sameReg] at h ⊢
  obtain ⟨hpower, harmed, hpending, href, hrun, hcount, hseg, hdig, hclk, -⟩ := h
  have hiff : expires .tot s ↔ expires .tot s' := by simp only [expires, hrun, hcount]
  by_cases he : expires .tot s
  · rw [toTick_of_expires he, toTick_of_expires (hiff.mp he)]
    simp [hp]
  · rw [toTick_of_not_expires he, toTick_of_not_expires (mt hiff.mpr he)]
    simp [hpower, harmed, hpending, href, hrun, hcount, hseg, hdig, hclk]

theorem service_agree (h : AgreeFor .svc s s') : ∀ r ∈ mayWrite .svc, sameReg (service s) (service s') r := by
  obtain ⟨hp, h⟩ := h
  simp only [onlyReads, mayWrite, List.cons_append, List.nil_append, List.forall_mem_cons, sameReg] at h ⊢
  obtain ⟨hpool, hlines, hvalue, hmask, hpower, harmed, hpending, href, hrun, hcount, hclk, -⟩ := h
  have hiff : rolls .svc s ↔ rolls .svc s' := by simp only [rolls, hpending, hlines]
  by_cases hroll : rolls .svc s
  · obtain ⟨hedge, k, hk⟩ := (rolls_svc_iff s).mp hroll
    rw [service_of_scan hedge hk, service_of_scan (hpending ▸ hedge) (hlines ▸ hk)]
    simp [roll_eq, hp, hpool]
  · rw [service_of_not_rolls hroll, service_of_not_rolls (mt hiff.mpr hroll)]
    simp [hvalue, hmask, hpower, harmed, href, hrun, hcount, hclk]

theorem setBtn_agree {m : Lines} (h : AgreeFor (.btn m) s s') :
    ∀ r ∈ mayWrite (.btn m), sameReg (setBtn m s) (setBtn m s') r := by
  obtain ⟨-, h⟩ := h
  simp only [onlyReads, mayWrite, List.cons_append, List.nil_append, List.forall_mem_cons, sameReg] at h ⊢
  obtain ⟨harmed, hpending, hlines, -⟩ := h
  simp [setBtn, harmed, hpending, hlines]

/-- RESET reads the parameters alone. -/
theorem resetRegisters_agree (hp : s'.params = s.params) :
    ∀ r ∈ mayWrite .rst, sameReg (resetRegisters s) (resetRegisters s') r := by
  simp [mayWrite, sameReg, resetRegisters, hp]

/-- The read half of the ownership table. -/
theorem after_agree {i : Instr} (h : AgreeFor i s s') : ∀ r ∈ mayWrite i, sameReg (after i s) (after i s') r := by
  cases i with
  | ent smp v => exact entTick_agree h
  | ref => exact refTick_agree h
  | tot => exact toTick_agree h
  | svc => exact service_agree h
  | btn m => exact setBtn_agree h
  | rst => exact resetRegisters_agree h.1

end Agreement

/-! ### The pending edge flag (10_state.md R31) -/

/-- A change of the lines while armed is an edge (42_input.md R150). -/
theorem edgeDetected_iff (armed : Bool) (old new : Lines) :
    edgeDetected armed old new = true ↔ armed = true ∧ new ≠ old := by
  simp [edgeDetected]

/-- SET_BTN leaves the flag set exactly if it was set or an edge is detected. -/
theorem btnPending_after_btn (m : Lines) (s : State) :
    (after (.btn m) s).btnPending = true ↔ (s.btnArmed = true ∧ m ≠ s.btnLines) ∨ s.btnPending = true := by
  rw [← edgeDetected_iff, ← Bool.or_eq_true]
  rfl

/-- A service clears the flag whether it rolls or not; with no edge it is clear already (42_input.md R151, R154). -/
theorem service_btnPending (s : State) : (service s).btnPending = false := by
  rcases service_cases s with ⟨hp, e⟩ | ⟨-, -, e⟩ | ⟨k, -, -, e⟩
  · rw [e, hp]
  · rw [e, State.setPending_btnPending]
  · rw [e, roll_eq, State.setPending_btnPending]

theorem btnPending_after_of_clears {i : Instr} {s : State} (h : i = .svc ∨ expires i s ∨ i = .rst) :
    (after i s).btnPending = false := by
  rcases h with rfl | he | rfl
  · exact service_btnPending s
  · obtain rfl := he.1
    simp [after, toTick_of_expires he]
  · rfl

theorem btnPending_after_of_not_clears {i : Instr} {s : State} (hb : ∀ m, i ≠ .btn m)
    (h : ¬(i = .svc ∨ expires i s ∨ i = .rst)) : (after i s).btnPending = s.btnPending := by
  obtain ⟨hsvc, hexp, hrst⟩ := not_or.mp h |>.imp_right not_or.mp
  cases i with
  | ent smp v => exact (after_frame (.ent smp v) s (r := .btnPending) (by simp [mayWrite])).symm
  | ref => exact (after_frame .ref s (r := .btnPending) (by simp [mayWrite])).symm
  | tot => simp [after, toTick_of_not_expires hexp]
  | svc => exact absurd rfl hsvc
  | btn m => exact absurd rfl (hb m)
  | rst => exact absurd rfl hrst

/-! ### The clock-rate request (10_state.md R38, 43_power.md R176) -/

/-- Replacing the clock-rate request before a stimulus replaces at most it after the stimulus. -/
theorem after_clkFull_irrelevant (i : Instr) (s : State) (c : ClockRate) :
    ∃ c', after i { s with clkFull := c } = { after i s with clkFull := c' } := by
  cases i with
  | ent smp v =>
    simp only [after, entTick]
    split_ifs <;> exact ⟨c, rfl⟩
  | ref =>
    simp only [after, refTick]
    split_ifs <;> exact ⟨c, rfl⟩
  | tot =>
    by_cases he : expires .tot s
    · have he' : expires .tot { s with clkFull := c } := he
      exact ⟨.reduced, by simp only [after, toTick_of_expires he, toTick_of_expires he']; rfl⟩
    · have he' : ¬expires .tot { s with clkFull := c } := he
      exact ⟨c, by simp only [after, toTick_of_not_expires he, toTick_of_not_expires he']; rfl⟩
  | svc =>
    by_cases hr : rolls .svc s
    · obtain ⟨hp, k, hk⟩ := (rolls_svc_iff s).mp hr
      have e : service { s with clkFull := c } = _ := service_of_scan hp hk
      exact ⟨.full, by simp only [after, service_of_scan hp hk, e]; rfl⟩
    · have hr' : ¬rolls .svc { s with clkFull := c } := hr
      exact ⟨c, by simp only [after, service_of_not_rolls hr, service_of_not_rolls hr']; rfl⟩
  | btn m => exact ⟨c, rfl⟩
  | rst => exact ⟨.reduced, rfl⟩

theorem clkFull_after_of_rolls {i : Instr} {s : State} (h : rolls i s) : (after i s).clkFull = .full := by
  obtain rfl := h.1
  obtain ⟨hp, k, hk⟩ := (rolls_svc_iff s).mp h
  simp [after, service_of_scan hp hk, roll_eq]

theorem clkFull_after_of_lowers {i : Instr} {s : State} (h : expires i s ∨ i = .rst) :
    (after i s).clkFull = .reduced := by
  rcases h with he | rfl
  · obtain rfl := he.1
    simp [after, toTick_of_expires he]
  · rfl

theorem clkFull_after_of_no_event {i : Instr} {s : State} (hroll : ¬rolls i s) (hexp : ¬expires i s)
    (hrst : i ≠ .rst) : (after i s).clkFull = s.clkFull := by
  cases i with
  | ent smp v => exact (after_frame (.ent smp v) s (r := .clkFull) (by simp [mayWrite])).symm
  | ref => exact (after_frame .ref s (r := .clkFull) (by simp [mayWrite])).symm
  | tot => simp [after, toTick_of_not_expires hexp]
  | svc => simp [after, service_of_not_rolls hroll]
  | btn m => rfl
  | rst => exact absurd rfl hrst

/-! ### The obligations -/

/-- Settles O49, from the write frame and the read independence of each operation. -/
theorem registersHaveOnlyTheirWriters : Obligations.RegistersHaveOnlyTheirWriters := by
  intro i s t ht
  obtain rfl := eq_after_of_exec ht
  refine ⟨fun r hr => after_frame i s hr, fun s' t' ht' hp hagree => ?_⟩
  obtain rfl := eq_after_of_exec ht'
  exact after_agree ⟨hp, hagree⟩

/-- Settles O29: the three events that clear the flag, SET_BTN, and the rest, which keep it. -/
theorem pendingFlagIsSetByArmedEdgesOnly : Obligations.PendingFlagIsSetByArmedEdgesOnly := by
  intro i s t ht
  obtain rfl := eq_after_of_exec ht
  refine ⟨fun h0 h1 => ?_, ?_, fun h1 h0 => ?_, btnPending_after_of_clears⟩
  · by_cases hb : ∃ m, i = .btn m
    · obtain ⟨m, rfl⟩ := hb
      have hedge := (btnPending_after_btn m s).mp h1
      exact ⟨m, rfl, hedge.resolve_right (by simp [h0])⟩
    · have hclear : ¬(i = .svc ∨ expires i s ∨ i = .rst) := fun h => by
        simp [btnPending_after_of_clears h] at h1
      rw [btnPending_after_of_not_clears (not_exists.mp hb) hclear, h0] at h1
      cases h1
  · rintro m rfl harmed hm
    exact (btnPending_after_btn m s).mpr (.inl ⟨harmed, hm⟩)
  · by_contra hclear
    by_cases hb : ∃ m, i = .btn m
    · obtain ⟨m, rfl⟩ := hb
      simp [(btnPending_after_btn m s).mpr (.inr h1)] at h0
    · rw [btnPending_after_of_not_clears (not_exists.mp hb) hclear, h1] at h0
      cases h0

/-- Settles O42: the request commutes with every operation, and rolls, expiry and RESET alone write it. -/
theorem clockRequestAffectsNothing : Obligations.ClockRequestAffectsNothing := by
  intro i s t ht
  obtain rfl := eq_after_of_exec ht
  refine ⟨fun c => ?_, clkFull_after_of_rolls, clkFull_after_of_lowers, clkFull_after_of_no_event⟩
  obtain ⟨c', h⟩ := after_clkFull_irrelevant i s c
  exact ⟨c', by rw [exec_eq_after, h]⟩

end Sys2Proof.Machine

/-! The family of 20_memory.md: the entropy registers along a script (R57). The laws of one stimulus come first, then
their induction over a script and the obligation. -/

namespace Sys2Proof.Machine

/-- The stimuli that run ENT_TICK. -/
def isEntropyTick : Instr → Bool
  | .ent _ _ => true
  | _ => false

/-- Two states hold the same in `ent_valid`, `ent_bit` and `pool`. -/
def SameEntropy (s s' : State) : Prop :=
  s.entValid = s'.entValid ∧ s.entBit = s'.entBit ∧ s.pool = s'.pool

theorem SameEntropy.refl (s : State) : SameEntropy s s := ⟨rfl, rfl, rfl⟩

theorem SameEntropy.trans {s t u : State} (h : SameEntropy s t) (h' : SameEntropy t u) : SameEntropy s u := by
  obtain ⟨hvalid, hbit, hpool⟩ := h
  obtain ⟨hvalid', hbit', hpool'⟩ := h'
  exact ⟨hvalid.trans hvalid', hbit.trans hbit', hpool.trans hpool'⟩

/-- ENT_TICK reads no register but the three it writes (10_state.md R44). -/
theorem entTick_sameEntropy (smp v : Bool) {s s' : State} (h : SameEntropy s s') :
    SameEntropy (entTick smp v s) (entTick smp v s') := by
  obtain ⟨hvalid, hbit, hpool⟩ := h
  simp [SameEntropy, entTick_entValid, entTick_entBit, entTick_pool, emission, hvalid, hbit, hpool]

/-- Of the stimuli that are no entropy tick, RESET alone owns an entropy register (10_state.md R44). -/
theorem entropy_not_mem_mayWrite {i : Instr} (htick : isEntropyTick i = false) (hrst : i ≠ .rst) :
    Reg.entValid ∉ mayWrite i ∧ Reg.entBit ∉ mayWrite i ∧ Reg.pool ∉ mayWrite i := by
  cases i with
  | ent smp v => cases htick
  | rst => exact absurd rfl hrst
  | _ => simp [mayWrite]

theorem after_sameEntropy_of_not_tick {i : Instr} (htick : isEntropyTick i = false) (hrst : i ≠ .rst) (s : State) :
    SameEntropy (after i s) s := by
  obtain ⟨hvalid, hbit, hpool⟩ := entropy_not_mem_mayWrite htick hrst
  exact ⟨(after_frame i s hvalid).symm, (after_frame i s hbit).symm, (after_frame i s hpool).symm⟩

/-- A script without RESET and its entropy ticks alone, from states with the same entropy registers. -/
theorem afterAll_sameEntropy_filter {is : List Instr} (hrst : .rst ∉ is) {s s' : State} (h : SameEntropy s s') :
    SameEntropy (afterAll is s) (afterAll (is.filter isEntropyTick) s') := by
  induction is generalizing s s' with
  | nil => exact h
  | cons i is ih =>
    obtain ⟨hi, his⟩ := List.ne_and_not_mem_of_not_mem_cons hrst
    cases htick : isEntropyTick i with
    | true =>
      rw [List.filter_cons_of_pos htick]
      cases i with
      | ent smp v => exact ih his (entTick_sameEntropy smp v h)
      | _ => cases htick
    | false =>
      rw [List.filter_cons_of_neg (by simp [htick])]
      exact ih his ((after_sameEntropy_of_not_tick htick (Ne.symm hi) s).trans h)

/-- Settles O14, by induction on the script: other stimuli leave the entropy registers, and a tick reads no other. -/
theorem entropyDependsOnEntropyTicksAlone : Obligations.EntropyDependsOnEntropyTicksAlone := by
  intro is s hrst
  exact ⟨_, _, runScript_eq is s, runScript_eq (is.filter isEntropyTick) s,
    afterAll_sameEntropy_filter hrst (.refl s)⟩

end Sys2Proof.Machine

/-! The family of 30_encoding.md: which words are reserved (R76, R77) and which scripts are realisable (R80). -/

namespace Sys2Proof.Machine

/-! ### The decoder, one equation per opcode (30_encoding.md R77) -/

section Decoder

variable {w : Word}

theorem decode_of_opField_ent (h : opField w = 0x1) :
    decode w = if w.extractLsb' 6 10 = 0 then some (.ent (w.getLsbD 4) (w.getLsbD 5)) else none := by
  simp [decode, h]

theorem decode_of_opField_ref (h : opField w = 0x2) :
    decode w = if w.extractLsb' 4 12 = 0 then some .ref else none := by
  simp [decode, h]

theorem decode_of_opField_tot (h : opField w = 0x3) :
    decode w = if w.extractLsb' 4 12 = 0 then some .tot else none := by
  simp [decode, h]

theorem decode_of_opField_svc (h : opField w = 0x4) :
    decode w = if w.extractLsb' 4 12 = 0 then some .svc else none := by
  simp [decode, h]

theorem decode_of_opField_btn (h : opField w = 0x5) :
    decode w = if w.extractLsb' 10 6 = 0 then some (.btn (w.extractLsb' 4 6)) else none := by
  simp [decode, h]

theorem decode_of_opField_rst (h : opField w = 0x6) :
    decode w = if w.extractLsb' 4 12 = 0 then some .rst else none := by
  simp [decode, h]

theorem decode_of_opField_zero (h : opField w = 0x0) : decode w = none := by
  simp [decode, h]

theorem decode_of_seven_le_opField (h : 0x7 ≤ (opField w).toNat) : decode w = none := by
  have hne : ∀ k : BitVec 4, k.toNat < 7 → opField w ≠ k := by
    rintro k hk rfl
    omega
  simp [decode, hne]

/-- The opcodes that are defined, between the reserved 0 and the reserved 7 to 15 (30_encoding.md R72, R76). -/
theorem opcode_cases (op : BitVec 4) :
    op = 0x0 ∨ op = 0x1 ∨ op = 0x2 ∨ op = 0x3 ∨ op = 0x4 ∨ op = 0x5 ∨ op = 0x6 ∨ 0x7 ≤ op.toNat := by
  revert op; decide

/-- The reserved words of 30_encoding.md R76. -/
theorem decode_eq_none_iff (w : Word) :
    decode w = none ↔
      opField w = 0x0 ∨ 0x7 ≤ (opField w).toNat ∨
      (opField w = 0x1 ∧ w.extractLsb' 6 10 ≠ 0) ∨
      ((opField w = 0x2 ∨ opField w = 0x3 ∨ opField w = 0x4 ∨ opField w = 0x6) ∧ w.extractLsb' 4 12 ≠ 0) ∨
      (opField w = 0x5 ∧ w.extractLsb' 10 6 ≠ 0) := by
  rcases opcode_cases (opField w) with h | h | h | h | h | h | h | h
  · simp [decode_of_opField_zero h, h]
  · simp [decode_of_opField_ent h, h]
  · simp [decode_of_opField_ref h, h]
  · simp [decode_of_opField_tot h, h]
  · simp [decode_of_opField_svc h, h]
  · simp [decode_of_opField_btn h, h]
  · simp [decode_of_opField_rst h, h]
  · simp [decode_of_seven_le_opField h, h]

/-- Every stimulus decodes from its word, so a reserved word is the word of none. -/
theorem encode_ne_of_decode_eq_none (h : decode w = none) (i : Instr) : encode i ≠ w := by
  rintro rfl
  exact Option.some_ne_none i ((decode_encode_of i).symm.trans h)

/-- 60_exceptions.md R204. -/
theorem step_of_decode_eq_none {s : State} {rest : List Word} (hs : s.script = w :: rest)
    (hd : decode w = none) : step s = .refused .reservedStimulus := by
  simp [step, State.presented, hs, hd]

end Decoder

/-! ### Enabled event sources and realisable scripts (30_encoding.md R80) -/

/-- The words waiting enable nothing. -/
theorem enabled_script (s : State) (ws : List Word) (i : Instr) :
    enabled { s with script := ws } i = enabled s i := by
  cases i <;> rfl

/-- The three gated stimuli test their source first, and the others have no source to be disabled. -/
theorem after_of_not_enabled {i : Instr} {s : State} (h : enabled s i = false) : after i s = s := by
  cases i with
  | ref => exact if_pos h
  | tot => exact if_pos h
  | svc => exact if_pos h
  | ent smp v => cases h
  | btn m => cases h
  | rst => cases h

theorem realisable_cons (i : Instr) (is : List Instr) (s : State) :
    realisable (i :: is) s = (enabled s i && realisable is (after i s)) := by
  simp only [realisable, exec_eq_after]

/-- The places of a nonempty list: its head, and the places of its tail with the head put before them. -/
theorem forall_cons_eq_append_iff {α : Type} {P : List α → α → Prop} (a : α) (l : List α) :
    (∀ before b rest, a :: l = before ++ b :: rest → P before b) ↔
      P [] a ∧ ∀ before b rest, l = before ++ b :: rest → P (a :: before) b := by
  constructor
  · intro h
    exact ⟨h [] a l rfl, fun before b rest e => h (a :: before) b rest (congrArg (a :: ·) e)⟩
  · rintro ⟨hhead, htail⟩ before b rest e
    cases before with
    | nil =>
      obtain ⟨rfl, -⟩ := List.cons.inj e
      exact hhead
    | cons c before =>
      obtain ⟨rfl, el⟩ := List.cons.inj e
      exact htail before b rest el

/-- A realisable script presents each stimulus enabled in the state the fold of those before it gives. -/
theorem realisable_iff_enabled_afterAll (is : List Instr) (s : State) :
    realisable is s = true ↔
      ∀ before i rest, is = before ++ i :: rest → enabled (afterAll before s) i = true := by
  induction is generalizing s with
  | nil => simp [realisable]
  | cons i is ih =>
    rw [realisable_cons, Bool.and_eq_true, ih]
    exact (forall_cons_eq_append_iff (P := fun before j => enabled (afterAll before s) j = true) i is).symm

/-- What the next stimulus finds after a run, read off the fold. -/
theorem exists_runScript_enabled_iff (before : List Instr) (s : State) (i : Instr) :
    (∃ t, runScript before s = .next t ∧ enabled t i = true) ↔ enabled (afterAll before s) i = true := by
  simp [runScript_eq, enabled_script]

/-! ### The obligations -/

/-- Settles O3, by the decoder's equation for each opcode; a reserved word is no encoding because every encoding
decodes. -/
theorem decodingIsTotalAndReservedIsRefused : Obligations.DecodingIsTotalAndReservedIsRefused := by
  intro w
  refine ⟨?ent, ?ref, ?tot, ?svc, ?btn, ?rst, decode_eq_none_iff w, fun hd =>
    ⟨encode_ne_of_decode_eq_none hd, fun s rest hs => step_of_decode_eq_none hs hd⟩⟩
  all_goals rintro ⟨hop, hzero⟩
  case ent => rw [decode_of_opField_ent hop, if_pos hzero]
  case ref => rw [decode_of_opField_ref hop, if_pos hzero]
  case tot => rw [decode_of_opField_tot hop, if_pos hzero]
  case svc => rw [decode_of_opField_svc hop, if_pos hzero]
  case btn => rw [decode_of_opField_btn hop, if_pos hzero]
  case rst => rw [decode_of_opField_rst hop, if_pos hzero]

/-- Settles O48: a script runs as the fold of its stimuli, and realisability follows by induction on the script. -/
theorem everyScriptIsAccepted : Obligations.EveryScriptIsAccepted := by
  refine ⟨fun s => ⟨rfl, rfl, rfl, fun _ _ => rfl, fun _ => rfl, rfl⟩, fun is s => ⟨_, runScript_eq is s⟩,
    fun i s h => ?disabled, fun is s => ?realisable⟩
  case disabled => rw [exec_eq_after, after_of_not_enabled h]
  case realisable => simp only [exists_runScript_enabled_iff, realisable_iff_enabled_afterAll]

end Sys2Proof.Machine

/-! The family of 40_entropy.md: ENT_TICK, the pool's `mix` and `draw` (R100 to R106). The laws come first, in the
order of the rules, then the seven obligations. -/

namespace Sys2Proof.Machine

/-! ### ENT_TICK, one equation per case (40_entropy.md R100, R101) -/

section Tick

variable {smp v : Bool} {s : State}

theorem entTick_of_invalid (hv : v = false) : entTick smp v s = s := if_pos hv

theorem entTick_of_none_pending (hv : v = true) (h : s.entValid = false) : entTick smp v s = s.storeSample smp := by
  simp [entTick, hv, h]

theorem entTick_of_equal_pair (hv : v = true) (h : s.entValid = true) (hb : smp = s.entBit) :
    entTick smp v s = s.clearSample := by
  simp [entTick, hv, h, hb]

theorem entTick_of_differing_pair (hv : v = true) (h : s.entValid = true) (hb : smp ≠ s.entBit) :
    entTick smp v s = (s.mixPool s.entBit).clearSample := by
  simp [entTick, hv, h, hb]

end Tick

theorem emission_of_invalid (smp : Bool) (s : State) : emission smp false s = none := rfl

/-- With a sample pending, a valid one emits the pending bit exactly if they differ (40_entropy.md R105). -/
theorem emission_of_pending {s : State} (h : s.entValid = true) (smp : Bool) :
    emission smp true s = if s.entBit = smp then none else some s.entBit := by
  by_cases hb : s.entBit = smp
  · simp [emission, hb]
  · simp [emission, h, hb, Ne.symm hb]

/-- ENT_TICK updates its own three registers and nothing else (40_entropy.md R104). -/
theorem entTick_eq_update (smp v : Bool) (s : State) :
    entTick smp v s = { s with
      entValid := (entTick smp v s).entValid
      entBit := (entTick smp v s).entBit
      pool := (entTick smp v s).pool } := by
  rcases entTick_cases smp v s with ⟨-, e⟩ | ⟨-, -, e⟩ | ⟨-, -, -, e⟩ | ⟨-, -, -, e⟩
  · rw [e]
  all_goals
    rw [e]
    rfl

/-! ### The bits of `mix` (40_entropy.md R102) -/

/-- The feedback bit, moved to the top of the pool, alone there. -/
theorem getLsbD_ofBool_shiftLeft_top {w : Nat} (hw : 0 < w) (fb : Bool) (k : Nat) :
    (((BitVec.ofBool fb).setWidth w) <<< (w - 1)).getLsbD k = (decide (k = w - 1) && fb) := by
  by_cases hk : k = w - 1
  · subst hk
    simp [hw]
  · have : k < w - 1 ∨ w ≤ k := by omega
    rcases this with h | h <;> simp [BitVec.getLsbD_shiftLeft, hk, h]

theorem getLsbD_mixBits_top {w : Nat} (hw : 0 < w) (b : Bool) (pool : BitVec w) :
    (mixBits b pool).getLsbD (w - 1) = (b ^^ pool.getLsbD 0 ^^ pool.getLsbD 3) := by
  have hout : pool.getLsbD (1 + (w - 1)) = false := BitVec.getLsbD_of_ge _ _ (by omega)
  simp only [mixBits, BitVec.getLsbD_or, BitVec.getLsbD_ushiftRight, hout, getLsbD_ofBool_shiftLeft_top hw]
  simp

theorem getLsbD_mixBits_of_lt {w k : Nat} (hk : k + 1 < w) (b : Bool) (pool : BitVec w) :
    (mixBits b pool).getLsbD k = pool.getLsbD (k + 1) := by
  have hlow : ¬k = w - 1 := by omega
  simp only [mixBits, BitVec.getLsbD_or, BitVec.getLsbD_ushiftRight, getLsbD_ofBool_shiftLeft_top (by omega : 0 < w)]
  simp [hlow, Nat.add_comm]

/-! ### Who writes the pool (40_entropy.md R106) -/

/-- Without an emission and without RESET the pool stays. -/
theorem pool_after_of_no_emission {i : Instr} {s : State} (hrst : i ≠ .rst)
    (h : ∀ smp v, i = .ent smp v → emission smp v s = none) : (after i s).pool = s.pool := by
  cases htick : isEntropyTick i with
  | false => exact (after_sameEntropy_of_not_tick htick hrst s).2.2
  | true =>
    cases i with
    | ent smp v => exact (entTick_pool smp v s).trans (by rw [h smp v rfl, Option.elim_none])
    | _ => cases htick

theorem entTick_pool_of_emission {smp v b : Bool} {s : State} (h : emission smp v s = some b) :
    (entTick smp v s).pool = mix b s.pool := by
  rw [entTick_pool, h, Option.elim_some]

/-! ### What comes between the two samples of a pair (40_entropy.md R105) -/

/-- A stimulus that is no valid sample and no RESET leaves the entropy registers. -/
theorem after_sameEntropy_of_not_sample {i : Instr} (hrst : i ≠ .rst) (hsample : ∀ x, i ≠ .ent x true) (s : State) :
    SameEntropy (after i s) s := by
  cases htick : isEntropyTick i with
  | false => exact after_sameEntropy_of_not_tick htick hrst s
  | true =>
    cases i with
    | ent smp v =>
      have hv : v = false := by
        cases v with
        | false => rfl
        | true => exact absurd rfl (hsample smp)
      rw [show after (.ent smp v) s = s from entTick_of_invalid hv]
      exact .refl s
    | _ => cases htick

theorem afterAll_sameEntropy_of_no_sample {is : List Instr} (h : ∀ i ∈ is, i ≠ .rst ∧ ∀ x, i ≠ .ent x true)
    (s : State) : SameEntropy (afterAll is s) s := by
  induction is generalizing s with
  | nil => exact .refl s
  | cons i is ih =>
    obtain ⟨⟨hrst, hsample⟩, his⟩ := List.forall_mem_cons.mp h
    exact (ih his (after i s)).trans (after_sameEntropy_of_not_sample hrst hsample s)

/-- A script without valid samples and RESET runs to a state with the entropy registers it began with. -/
theorem exists_runScript_sameEntropy {is : List Instr} (h : ∀ i ∈ is, i ≠ .rst ∧ ∀ x, i ≠ .ent x true) (s : State) :
    ∃ u, runScript is s = .next u ∧ SameEntropy u s :=
  ⟨_, runScript_eq is s, afterAll_sameEntropy_of_no_sample h s⟩

/-! ### The drawn value (40_entropy.md R103) -/

/-- Of the stimuli other than RESET, BTN_SERVICE alone may write `cur_value`, and it does so in a roll. -/
theorem rolls_of_curValue_ne {i : Instr} {s : State} (hrst : i ≠ .rst) (h : (after i s).curValue ≠ s.curValue) :
    rolls i s := by
  have howns : Reg.curValue ∈ mayWrite i := by
    by_contra hnot
    exact h (after_frame i s hnot).symm
  have hsvc : i = .svc := by
    cases i with
    | svc => rfl
    | rst => exact absurd rfl hrst
    | _ => simp [mayWrite] at howns
  subst hsvc
  by_contra hroll
  have hkeep : (service s).curValue = s.curValue := by
    rw [service_of_not_rolls hroll, State.setPending_curValue]
  exact h hkeep

/-- A roll shows the value drawn from the die of the lowest pressed button. -/
theorem toNat_curValue_service {s : State} {k : Fin 6} (hp : s.btnPending = true)
    (hk : lowestPressed s.btnLines = some k) :
    (service s).curValue.toNat = draw (buttonFaces s.params k) s.pool := by
  rw [service_of_scan hp hk, roll_eq]
  exact toNat_shown_draw s.params k s.pool

/-! ### The obligations -/

/-- Settles O9: an invalid sample is no input. -/
theorem invalidSampleChangesNothing : Obligations.InvalidSampleChangesNothing := by
  intro s smp
  exact ⟨congrArg _ (entTick_of_invalid (smp := smp) rfl), emission_of_invalid smp s⟩

/-- Settles O8, by the equation of each case; the example stores the first sample and mixes it in on the second. -/
theorem entTickDebiases : Obligations.EntTickDebiases := by
  intro s smp v
  refine ⟨rfl, fun hv => congrArg _ (entTick_of_invalid hv),
    fun hv h => congrArg _ (entTick_of_none_pending hv h),
    fun hv h hb => congrArg _ (entTick_of_equal_pair hv h hb),
    fun hv h hb => congrArg _ (entTick_of_differing_pair hv h hb), fun hpool h => ?_⟩
  have hfirst : exec (.ent false true) s = .next (s.storeSample false) :=
    congrArg _ (entTick_of_none_pending rfl h)
  have hsecond : exec (.ent true true) (s.storeSample false) =
      .next (((s.storeSample false).mixPool false).clearSample) :=
    congrArg _ (entTick_of_differing_pair rfl rfl (by simp))
  refine ⟨_, _, hfirst, rfl, hsecond, ?_, rfl⟩
  rw [State.clearSample_pool, State.mixPool_pool, State.storeSample_pool, hpool]
  decide

/-- Settles O10: the stimuli between leave the first sample pending, and the second one meets it. -/
theorem emissionTableOfSamplePairs : Obligations.EmissionTableOfSamplePairs := by
  intro s a b between hnone hbetween
  have hfirst : after (.ent a true) s = s.storeSample a := entTick_of_none_pending rfl hnone
  obtain ⟨u, hrun, hvalid, hbit, hpool⟩ := exists_runScript_sameEntropy hbetween (s.storeSample a)
  simp only [State.storeSample_entValid, State.storeSample_entBit, State.storeSample_pool] at hvalid hbit hpool
  have hemits : emission b true u = if a = b then none else some a := by rw [emission_of_pending hvalid, hbit]
  refine ⟨u, _, by rw [runScript_cons, hfirst, hrun], hemits, exec_eq_after .., ?cleared, ?mixed⟩
  case cleared => exact (entTick_entValid b true u).trans (by rw [hvalid, Bool.xor_self])
  case mixed =>
    have hmix : (after (.ent b true) u).pool = (emission b true u).elim u.pool (mix · u.pool) := entTick_pool b true u
    rw [hmix, hemits, hpool]
    split_ifs <;> rfl

/-- Settles O11: a tick updates its three registers, and its answer in them depends on them alone. -/
theorem entTickIsIndependent : Obligations.EntTickIsIndependent := by
  intro smp v s t ht
  obtain rfl : t = entTick smp v s := eq_after_of_exec ht
  refine ⟨entTick_eq_update smp v s, fun s' hvalid hbit hpool => ?_⟩
  obtain ⟨hvalid', hbit', hpool'⟩ := entTick_sameEntropy smp v (s := s') (s' := s) ⟨hvalid, hbit, hpool⟩
  rw [← hvalid', ← hbit', ← hpool']
  exact congrArg _ (entTick_eq_update smp v s')

/-- Settles O12, from the two bit lemmas of `mixBits`; a changed pool means that an entropy tick emitted. -/
theorem mixShiftsInTheFeedbackBit : Obligations.MixShiftsInTheFeedbackBit := by
  refine ⟨fun b p hw => ⟨rfl, getLsbD_mixBits_top (by omega) b p.bits, fun k hk => getLsbD_mixBits_of_lt hk b p.bits⟩,
    by decide, by decide, by decide, by decide, fun i s t hrst ht hchanged => ?_⟩
  obtain rfl := eq_after_of_exec ht
  by_contra hno
  refine hchanged (pool_after_of_no_emission hrst fun smp v hi => ?_)
  subst hi
  exact Option.eq_none_iff_forall_ne_some.mpr fun b hb => hno ⟨smp, v, b, rfl, hb, entTick_pool_of_emission hb⟩

/-- Settles O13: RESET seeds, an emission mixes, and whatever emits nothing leaves the pool. -/
theorem poolChangesOnlyByMixAndReset : Obligations.PoolChangesOnlyByMixAndReset := by
  intro i s t ht
  obtain rfl := eq_after_of_exec ht
  refine ⟨?seeds, ?mixes, pool_after_of_no_emission⟩
  case seeds =>
    rintro rfl
    rfl
  case mixes =>
    rintro smp v b rfl hb
    exact entTick_pool_of_emission hb

/-- Settles O15: the range of `draw` for every die, and the roll as the only use of it. -/
theorem drawStaysInRange : Obligations.DrawStaysInRange := by
  refine ⟨fun d p => ⟨?faces, rfl, one_le_draw _ p, draw_le (faces_pos d) p⟩, by decide, by decide, by decide,
    fun n w => ?zero, fun i s t ht hchanged hrst => ?roll⟩
  case faces => cases d <;> decide
  case zero => simp [draw]
  case roll =>
    obtain rfl := eq_after_of_exec ht
    have hroll := rolls_of_curValue_ne hrst hchanged
    obtain rfl : i = .svc := hroll.1
    obtain ⟨hedge, k, hk⟩ := (rolls_svc_iff s).mp hroll
    have hpool : Reg.pool ∉ mayWrite .svc := by decide
    exact ⟨hroll, (service_frame s hpool).symm, k, toNat_curValue_service hedge hk⟩

end Sys2Proof.Machine

/-! The family of 41_display.md: REF_TICK and the digits it drives (R130 to R136). The laws come first, in the order of
the rules, then the six obligations. -/

namespace Sys2Proof.Machine

/-! ### REF_TICK, one equation per case (41_display.md R130, R136) -/

section Refresh

variable {s : State}

theorem refTick_of_stopped (h : s.refRun = false) : refTick s = s := if_pos h

/-- With the other digit off, writing one digit's enable decides the whole set. -/
theorem setDigit_of_other_off (v : DigitSet) (d : Digit) (on : Bool) :
    setDigit (setDigit v d.other false) d on =
      if on = true then (if d = .ones then 0b01 else 0b10) else 0b00 := by
  revert v on; cases d <;> decide

/-- A refresh that acts writes out as one update of the state. -/
theorem refTick_of_running (hrun : s.refRun = true) :
    refTick s = { s with
      segN := (litPattern s).getD blank
      digOn := if (litPattern s).isSome = true then (if s.activeDigit = .ones then 0b01 else 0b10) else 0b00
      activeDigit := s.activeDigit.other } := by
  rcases refTick_cases s with ⟨h, -⟩ | ⟨-, e⟩
  · simp [hrun] at h
  · rw [e, ← setDigit_of_other_off s.digOn]
    rfl

theorem refTick_of_lit {pattern : Segments} (hrun : s.refRun = true) (hlit : litPattern s = some pattern) :
    refTick s = { s with
      segN := pattern
      digOn := if s.activeDigit = .ones then 0b01 else 0b10
      activeDigit := s.activeDigit.other } := by
  rw [refTick_of_running hrun, hlit]
  rfl

theorem refTick_of_dark (hrun : s.refRun = true) (hdark : litPattern s = none) :
    refTick s = { s with segN := blank, digOn := 0b00, activeDigit := s.activeDigit.other } := by
  rw [refTick_of_running hrun, hdark]
  rfl

/-- The pattern of a digit whose mask bit is 1 is the table's, if the table has one. -/
theorem litPattern_of_shown (h : getDigit s.showMask s.activeDigit = true) :
    litPattern s = segPattern s.params (digitValue s.curValue s.activeDigit) := if_pos h

/-- A digit whose mask bit is 0 has no pattern (41_display.md R135). -/
theorem litPattern_of_hidden (h : getDigit s.showMask s.activeDigit = false) : litPattern s = none :=
  litPattern_eq_none s fun hlit => by simp [h] at hlit

/-- A digit value of 10 or more has no pattern (41_display.md R133). -/
theorem litPattern_of_ten_le (h : 10 ≤ digitValue s.curValue s.activeDigit) : litPattern s = none :=
  litPattern_eq_none s fun hlit => by omega

/-! ### At most one digit is enabled (41_display.md R134) -/

@[simp] theorem getDigit_zero (d : Digit) : getDigit 0b00 d = false := by cases d <;> rfl

theorem atMostOneDigit_of_off {v : DigitSet} {d : Digit} (h : getDigit v d = false) : AtMostOneDigit v := by
  rintro ⟨hones, htens⟩
  cases d with
  | ones => simp [h] at hones
  | tens => simp [h] at htens

/-- A refresh that acts leaves the digit it does not drive off. -/
theorem inv4_refTick_of_running (hrun : s.refRun = true) : (refTick s).Inv4 := by
  have hoff : getDigit (refTick s).digOn s.activeDigit.other = false := by simp [refTick_digOn, hrun]
  exact atMostOneDigit_of_off hoff

end Refresh

/-! ### The outputs under the other stimuli (41_display.md R136) -/

theorem refRun_after_of_rolls {i : Instr} {s : State} (h : rolls i s) : (after i s).refRun = true := by
  obtain rfl := h.1
  obtain ⟨hp, k, hk⟩ := (rolls_svc_iff s).mp h
  simp [after, service_of_scan hp hk, roll_eq]

theorem refRun_after_of_stops {i : Instr} {s : State} (h : expires i s ∨ i = .rst) : (after i s).refRun = false := by
  rcases h with he | rfl
  · obtain rfl := he.1
    simp [after, toTick_of_expires he]
  · rfl

theorem refRun_after_of_no_event {i : Instr} {s : State} (hroll : ¬rolls i s) (hexp : ¬expires i s)
    (hrst : i ≠ .rst) : (after i s).refRun = s.refRun := by
  cases i with
  | tot => simp [after, toTick_of_not_expires hexp]
  | svc => simp [after, service_of_not_rolls hroll]
  | rst => exact absurd rfl hrst
  | ent | ref | btn => exact (after_frame _ s (r := .refRun) (by simp [mayWrite])).symm

/-- REF_TICK, TO_TICK and RESET alone own the display registers (10_state.md R44). -/
theorem display_not_mem_mayWrite {i : Instr} (href : i ≠ .ref) (htot : i ≠ .tot) (hrst : i ≠ .rst) :
    Reg.segN ∉ mayWrite i ∧ Reg.digOn ∉ mayWrite i ∧ Reg.activeDigit ∉ mayWrite i := by
  cases i with
  | ref => exact absurd rfl href
  | tot => exact absurd rfl htot
  | rst => exact absurd rfl hrst
  | ent | svc | btn => simp [mayWrite]

/-- The display registers change by a refresh, an expiry or RESET only. -/
theorem display_after_of_no_event {i : Instr} {s : State} (href : i ≠ .ref) (hexp : ¬expires i s) (hrst : i ≠ .rst) :
    (after i s).segN = s.segN ∧ (after i s).digOn = s.digOn ∧ (after i s).activeDigit = s.activeDigit := by
  by_cases htot : i = .tot
  · subst htot
    simp [after, toTick_of_not_expires hexp]
  · obtain ⟨hseg, hdig, hactive⟩ := display_not_mem_mayWrite href htot hrst
    exact ⟨(after_frame i s hseg).symm, (after_frame i s hdig).symm, (after_frame i s hactive).symm⟩

/-- No stimulus but REF_TICK enables a digit. -/
theorem digOn_after_of_ne_ref {i : Instr} (href : i ≠ .ref) (s : State) :
    (after i s).digOn = s.digOn ∨ (after i s).digOn = 0b00 := by
  by_cases hexp : expires i s
  · obtain rfl := hexp.1
    exact .inr (by simp [after, toTick_of_expires hexp])
  · by_cases hrst : i = .rst
    · subst hrst
      exact .inr rfl
    · obtain ⟨-, hdig, -⟩ := display_after_of_no_event href hexp hrst
      exact .inl hdig

theorem digOn_afterAll_of_no_ref {is : List Instr} (href : .ref ∉ is) {s : State} (h : s.digOn = 0b00) :
    (afterAll is s).digOn = 0b00 := by
  induction is generalizing s with
  | nil => exact h
  | cons i is ih =>
    obtain ⟨hi, his⟩ := List.ne_and_not_mem_of_not_mem_cons href
    have hfirst : (after i s).digOn = 0b00 :=
      (digOn_after_of_ne_ref (Ne.symm hi) s).elim (fun e => e.trans h) id
    exact ih his hfirst

/-- Every stimulus keeps INV4: a refresh that acts establishes it, and no other stimulus enables a digit. -/
theorem inv4_after (i : Instr) {s : State} (h : s.Inv4) : (after i s).Inv4 := by
  by_cases href : i = .ref
  · subst href
    cases hrun : s.refRun with
    | false => rwa [show after .ref s = s from refTick_of_stopped hrun]
    | true => exact inv4_refTick_of_running hrun
  · rcases digOn_after_of_ne_ref href s with e | e
    · rwa [State.Inv4, e]
    · exact atMostOneDigit_of_off (d := .ones) (by rw [e, getDigit_zero])

/-! ### What the invariant says of the display -/

section Legal

variable {s : State}

/-- With the refresh timer stopped the display is dark, by INV2 and INV3. -/
theorem dark_of_inv_of_stopped (h : s.Inv) (hrun : s.refRun = false) : s.Dark := by
  obtain ⟨-, -, -, ⟨-, hidle, -⟩, hdark, -⟩ := h
  exact hdark (hidle.mpr hrun)

/-- With an edge pending the display is dark, by INV1, INV2 and INV3. -/
theorem dark_of_inv_of_pending (h : s.Inv) (hp : s.btnPending = true) : s.Dark := by
  obtain ⟨-, -, harmed, ⟨hidle, -⟩, hdark, -⟩ := h
  exact hdark (hidle.mpr (harmed hp))

/-- With the refresh timer running the shown value is at most 20, by INV2 and INV5. -/
theorem curValue_le_twenty_of_inv (h : s.Inv) (hrun : s.refRun = true) : s.curValue.toNat ≤ 20 := by
  obtain ⟨-, -, -, ⟨-, hidle, -⟩, -, -, hshown⟩ := h
  have hdisp : s.powerState = .displaying := by
    cases hpow : s.powerState with
    | idle => simp [hidle.mp hpow] at hrun
    | displaying => rfl
  obtain ⟨-, hle, -⟩ := hshown hdisp
  exact hle

end Legal

/-! ### The decimal digits of the shown value (41_display.md R131) -/

theorem digitValue_le_nine {v : Shown} (h : v.toNat ≤ 99) (d : Digit) : digitValue v d ≤ 9 := by
  cases d <;> simp only [digitValue] <;> omega

/-- A value newly written to `cur_value` is a roll's or RESET's 0. -/
theorem toNat_curValue_after_le_twenty {i : Instr} {s : State} (h : (after i s).curValue ≠ s.curValue) :
    (after i s).curValue.toNat ≤ 20 := by
  by_cases hrst : i = .rst
  · subst hrst
    exact Nat.zero_le 20
  · have hroll := rolls_of_curValue_ne hrst h
    obtain rfl := hroll.1
    obtain ⟨hp, k, hk⟩ := (rolls_svc_iff s).mp hroll
    calc (service s).curValue.toNat
        = draw (buttonFaces s.params k) s.pool := toNat_curValue_service hp hk
      _ ≤ buttonFaces s.params k := draw_le (faces_pos _) _
      _ ≤ 20 := faces_le_twenty _

/-- A roll writes the mask of the value it shows (41_display.md R135, 42_input.md R156). -/
theorem showMask_service_of_rolls {s : State} (h : rolls .svc s) :
    (service s).showMask = rollMask s.params.leadingZeroBlank (service s).curValue.toNat := by
  obtain ⟨hp, k, hk⟩ := (rolls_svc_iff s).mp h
  rw [toNat_curValue_service hp hk, service_of_scan hp hk]
  rfl

/-! ### The obligations -/

/-- Settles O22, from the law that every stimulus keeps INV4; the script has no part in it. -/
theorem oneDigitEnabledAtATime : Obligations.OneDigitEnabledAtATime := by
  refine ⟨fun s t hs ht => ?_, fun s t hrun ht => ?_⟩
  · rcases step_cases ht with ⟨-, rfl⟩ | ⟨w, rest, i, -, -, rfl⟩
    · exact hs
    · exact inv4_after i hs
  · obtain rfl := eq_after_of_exec ht
    exact inv4_refTick_of_running hrun

/-- Settles O23: a hidden digit has no pattern, and the two bits of a roll's mask are those of `rollMask`. -/
theorem showMaskBlanksTheLeadingZero : Obligations.ShowMaskBlanksTheLeadingZero := by
  refine ⟨fun s t hrun hmask ht => ?hidden, fun s hroll => ⟨service s, rfl, ?roll⟩⟩
  case hidden =>
    obtain rfl : t = refTick s := eq_after_of_exec ht
    rw [refTick_of_dark hrun (litPattern_of_hidden hmask)]
    exact ⟨rfl, getDigit_zero _⟩
  case roll =>
    rw [showMask_service_of_rolls hroll, getDigit_rollMask_ones, getDigit_rollMask_tens]
    refine ⟨rfl, fun hv => by simp [hv], fun hv => ?_⟩
    have hsmall : ¬10 ≤ (service s).curValue.toNat := by omega
    simp [hsmall]

/-- Settles O18: the equations of REF_TICK; a roll leaves the display dark, and only REF_TICK enables a digit. -/
theorem refTickDrivesTheActiveDigit : Obligations.RefTickDrivesTheActiveDigit := by
  refine ⟨rfl, fun s => ⟨fun hrun => congrArg _ (refTick_of_stopped hrun), fun hrun hmask hvalue => ?lit,
    fun hrun hdark => congrArg _ (refTick_of_dark hrun (litPattern_eq_none s hdark)),
    fun htable hrun hvalue hmask hactive => ?tensOfTwelve, fun is hinv hroll href => ?afterRoll⟩⟩
  case lit =>
    have hlit := litPattern_eq s hmask hvalue
    exact ⟨_, (litPattern_of_shown hmask).symm.trans hlit, congrArg _ (refTick_of_lit hrun hlit)⟩
  case tensOfTwelve =>
    have hlit : litPattern s = some 0x79 := by
      simp only [litPattern, segPattern, hmask, hactive, hvalue, htable]
      decide
    have hnext := refTick_of_lit hrun hlit
    rw [hactive] at hnext
    exact congrArg _ hnext
  case afterRoll =>
    obtain ⟨-, hpending, -⟩ := hroll
    obtain ⟨hdark, -⟩ := dark_of_inv_of_pending hinv hpending
    have hall : .ref ∉ Instr.svc :: is := by simp [href]
    exact ⟨_, runScript_eq (.svc :: is) s, digOn_afterAll_of_no_ref hall hdark⟩

/-- Settles O19: division with remainder, and the bound on what a roll or RESET writes. -/
theorem digitsRecomposeTheValue : Obligations.DigitsRecomposeTheValue := by
  refine ⟨fun v => ⟨rfl, rfl, fun hv => ⟨by omega, digitValue_le_nine hv .tens, digitValue_le_nine hv .ones⟩,
    fun hv => ?_⟩, fun i s t ht hchanged => ?_⟩
  · have hwidth : v.toNat < 128 := v.isLt
    simp only [digitValue]
    omega
  · obtain rfl := eq_after_of_exec ht
    exact (toNat_curValue_after_le_twenty hchanged).trans (by decide)

/-- Settles O21: a value of 10 or more has no pattern, and a shown value of at most 20 has decimal digits. -/
theorem outOfRangeDigitIsDark : Obligations.OutOfRangeDigitIsDark := by
  refine ⟨fun s hrun hvalue => ⟨refTick s, rfl, ?_⟩, fun s hinv hrun => ?_⟩
  · rw [refTick_of_dark hrun (litPattern_of_ten_le hvalue)]
    exact ⟨rfl, getDigit_zero _, getDigit_zero _⟩
  · exact digitValue_le_nine ((curValue_le_twenty_of_inv hinv hrun).trans (by decide)) s.activeDigit

/-- Settles O24: the stopped timer, the three events that write it, and the stimuli that leave the display alone. -/
theorem refreshActsOnlyWhileRunning : Obligations.RefreshActsOnlyWhileRunning := by
  refine ⟨fun s hrun => congrArg _ (refTick_of_stopped hrun), fun s => dark_of_inv_of_stopped,
    fun i s t ht => ?timer, fun i s t ht => ?display⟩
  all_goals obtain rfl := eq_after_of_exec ht
  case timer => exact ⟨refRun_after_of_rolls, refRun_after_of_stops, refRun_after_of_no_event⟩
  case display => exact display_after_of_no_event

end Sys2Proof.Machine

/-! The family of 42_input.md: SET_BTN and BTN_SERVICE (R150 to R155). The laws come first, in the order of the rules,
then the five obligations. -/

namespace Sys2Proof.Machine

/-! ### SET_BTN, one equation per case (42_input.md R150) -/

/-- The mask stands above the opcode in the word of SET_BTN (30_encoding.md R74). -/
theorem encode_btn_eq_or (m : Lines) : encode (.btn m) = 0x0005 ||| (m.setWidth 16 <<< 4) := by
  revert m; decide

theorem edgeDetected_of_disarmed (old new : Lines) : edgeDetected false old new = false := Bool.false_and _

theorem edgeDetected_self (armed : Bool) (m : Lines) : edgeDetected armed m m = false := by simp [edgeDetected]

section SetBtn

variable {m : Lines} {s : State}

theorem setBtn_of_edge (h : edgeDetected s.btnArmed s.btnLines m = true) :
    setBtn m s = (s.setPending true).setLines m := by
  rw [setBtn, pendingAfter, h, Bool.true_or]

/-- Without an edge the lines are copied and nothing else is written. -/
theorem setBtn_of_no_edge (h : edgeDetected s.btnArmed s.btnLines m = false) : setBtn m s = s.setLines m := by
  rw [setBtn, pendingAfter, h, Bool.false_or, State.setPending_eq_self rfl]

end SetBtn

/-! ### BTN_SERVICE, one equation per case (42_input.md R151, R154) -/

section Service

variable {s : State} {k : Fin 6}

theorem service_of_no_edge (hp : s.btnPending = false) : service s = s := if_pos hp

theorem service_of_no_line (hz : s.btnLines = 0) : service s = s.setPending false :=
  service_of_not_rolls fun ⟨_, _, hne⟩ => hne hz

/-- A service whose lowest asserted line is `k` writes out as one update of the state. -/
theorem service_of_lowest (hp : s.btnPending = true) (hk : s.btnLines.getLsbD k = true)
    (hlow : ∀ j : Fin 6, j < k → s.btnLines.getLsbD j = false) :
    service s = { s with
      btnArmed := false
      btnPending := false
      clkFull := .full
      curValue := BitVec.ofNat 7 (draw (buttonFaces s.params k) s.pool)
      showMask := rollMask s.params.leadingZeroBlank (draw (buttonFaces s.params k) s.pool)
      toCount := s.params.ticks
      toRun := true
      refRun := true
      powerState := .displaying } := by
  rw [service_of_scan hp ((lowestPressed_eq_some_iff _ k).mpr ⟨hk, hlow⟩), roll_eq]
  rfl

end Service

/-! ### The die of each button, and INV6 -/

/-- `DIE` of this hardware, in index order (42_input.md R153). -/
theorem faces_dieDefault (k : Fin 6) : [4, 6, 8, 10, 12, 20][k.val]? = some (dieDefault[k]).faces := by
  revert k; decide

/-- INV6: no edge is pending while `DISPLAYING`, by INV1 and INV2. -/
theorem btnPending_of_inv_of_displaying {s : State} (h : s.Inv) (hdisp : s.powerState = .displaying) :
    s.btnPending = false := by
  obtain ⟨-, -, harmed, ⟨hidle, -⟩, -⟩ := h
  by_contra hp
  have hpow : s.powerState = .idle := hidle.mpr (harmed (Bool.eq_true_of_not_eq_false hp))
  rw [hdisp] at hpow
  cases hpow

/-! ### The obligations -/

/-- Settles O31: the least asserted line is the one the scan finds, and its die is the table's. -/
theorem buttonIndexNamesTheDie : Obligations.ButtonIndexNamesTheDie := by
  refine ⟨rfl, fun s k hdie hp hk hleast => ⟨service s, _, rfl, faces_dieDefault k, ?_⟩⟩
  have hlow : ∀ j : Fin 6, j < k → s.btnLines.getLsbD j = false := fun j hj =>
    Bool.eq_false_iff.mpr fun hpressed => absurd (hleast j hpressed) (not_le.mpr hj)
  rw [toNat_curValue_service hp ((lowestPressed_eq_some_iff _ k).mpr ⟨hk, hlow⟩), buttonFaces, hdie]
  rfl

/-- Settles O33: the update a roll makes does not depend on the power state, and INV6 excludes the pending edge. -/
theorem rollWhileDisplayingRestartsButIsUnreachable : Obligations.RollWhileDisplayingRestartsButIsUnreachable := by
  refine ⟨fun s hroll _ _ => ⟨service s, rfl, ?restarts⟩, fun s hinv hdisp => ?unreachable⟩
  case restarts =>
    obtain ⟨hp, k, hscan⟩ := (rolls_svc_iff s).mp hroll
    obtain ⟨hk, hlow⟩ := (lowestPressed_eq_some_iff _ k).mp hscan
    refine ⟨?_, ?_, ?_, ?_, ⟨k, hk, hlow, toNat_curValue_service hp hscan⟩, showMask_service_of_rolls hroll⟩
    all_goals rw [service_of_lowest hp hk hlow]
  case unreachable =>
    have hp := btnPending_of_inv_of_displaying hinv hdisp
    exact ⟨fun ⟨_, hpending, _⟩ => by simp [hp] at hpending, congrArg _ (service_of_no_edge hp)⟩

/-- Settles O28, by whether SET_BTN detects an edge. -/
theorem setBtnDetectsEdgesWhileArmed : Obligations.SetBtnDetectsEdgesWhileArmed := by
  refine fun m s => ⟨encode_btn_eq_or m,
    fun harmed hm => congrArg _ (setBtn_of_edge ((edgeDetected_iff ..).mpr ⟨harmed, hm⟩)),
    fun _ hm => ?unchanged, fun harmed => ?disarmed⟩
  case unchanged =>
    subst hm
    exact congrArg _ (setBtn_of_no_edge (edgeDetected_self ..))
  case disarmed =>
    have hno : edgeDetected s.btnArmed s.btnLines m = false := by rw [harmed, edgeDetected_of_disarmed]
    exact congrArg _ (setBtn_of_no_edge hno)

/-- Settles O30, by the equation of each case; the example is the roll of line 1. -/
theorem serviceRollsTheLowestPressedButton : Obligations.ServiceRollsTheLowestPressedButton := by
  refine ⟨rfl, fun s => ⟨fun hp => congrArg _ (service_of_no_edge hp), fun _ hz => congrArg _ (service_of_no_line hz),
    fun k hp hk hlow => congrArg _ (service_of_lowest hp hk hlow), fun hparams hpool hp hlines => ?lineOne⟩⟩
  case lineOne =>
    have hk : s.btnLines.getLsbD (1 : Fin 6) = true := by rw [hlines]; decide
    have hlow : ∀ j : Fin 6, j < 1 → s.btnLines.getLsbD j = false := by rw [hlines]; decide
    refine ⟨service s, rfl, ?_⟩
    rw [service_of_lowest hp hk hlow, hparams, hpool]
    dsimp only
    decide

/-- Settles O32: with no line asserted the service does not roll. -/
theorem spuriousServiceClearsTheFlagOnly : Obligations.SpuriousServiceClearsTheFlagOnly :=
  fun s _ hz => ⟨s.setPending false, congrArg _ (service_of_no_line hz), rfl, State.setPending_btnArmed ..⟩

end Sys2Proof.Machine

/-! The family of 43_power.md: TO_TICK, expiry and the power states (R170 to R174). The laws come first: the countdown,
the table of the power state, the registers that go with each state, the invariant along a step, the countdown along a
script. The obligations follow. -/

namespace Sys2Proof.Machine

/-! ### The countdown (43_power.md R172) -/

/-- `to_count` after a tick, as the register of its width with one less, and 0 after 0. -/
theorem countAfter_eq_of (c : Sized) : countAfter c = .of c.width (c.toNat - 1) := by
  rw [← of_toNat (countAfter c), width_countAfter, toNat_countAfter]

theorem toTick_of_stopped {s : State} (h : s.toRun = false) : toTick s = s := if_pos h

theorem exec_tot_of_expires {s : State} (h : expires .tot s) : exec .tot s = .next s.expire :=
  congrArg _ (toTick_of_expires h)

/-- A running count of 2 or more loses one and nothing else changes. -/
theorem toTick_of_running {s : State} (hrun : s.toRun = true) (hcount : 2 ≤ s.toCount.toNat) :
    toTick s = s.setCount (.of s.toCount.width (s.toCount.toNat - 1)) := by
  have hexp : ¬expires .tot s := fun ⟨_, _, hle⟩ => by omega
  rw [toTick_of_not_expires hexp, if_pos hrun, countAfter_eq_of]

/-- From a running count of `n + m`, `n` ticks leave `m`, if that is at least 1. -/
theorem afterAll_wait {n m : Nat} {s : State} (hm : 1 ≤ m) (hrun : s.toRun = true)
    (hcount : s.toCount.toNat = n + m) : afterAll (wait n) s = s.setCount (.of s.toCount.width m) := by
  induction n generalizing s with
  | zero =>
    rw [Nat.zero_add] at hcount
    rw [← hcount, of_toNat]
    rfl
  | succ n ih =>
    have hfirst : after .tot s = s.setCount (.of s.toCount.width (n + m)) := by
      rw [after, toTick_of_running hrun (by omega), hcount, show n + 1 + m - 1 = n + m by omega]
    have hfits : n + m < 2 ^ s.toCount.width := by
      have : s.toCount.toNat < 2 ^ s.toCount.width := s.toCount.bits.isLt
      omega
    calc afterAll (wait (n + 1)) s
        = afterAll (wait n) (after .tot s) := rfl
      _ = afterAll (wait n) (s.setCount (.of s.toCount.width (n + m))) := by rw [hfirst]
      _ = s.setCount (.of s.toCount.width m) := ih hrun ((toNat_of ..).trans (Nat.mod_eq_of_lt hfits))

/-! ### The three events that write the power state, and the other stimuli (43_power.md R171) -/

/-- A roll starts with detection disarmed and no edge pending (42_input.md R151). -/
theorem after_of_rolls {i : Instr} {s : State} (h : rolls i s) :
    ∃ k, after i s = roll k ((s.setArmed false).setPending false) := by
  obtain rfl := h.1
  obtain ⟨hp, k, hk⟩ := (rolls_svc_iff s).mp h
  exact ⟨k, service_of_scan hp hk⟩

theorem after_of_expires {i : Instr} {s : State} (h : expires i s) : after i s = s.expire := by
  obtain rfl := h.1
  exact toTick_of_expires h

/-- A roll loads the countdown and runs it, whatever its state (43_power.md R174). -/
theorem countdown_after_of_rolls {i : Instr} {s : State} (h : rolls i s) :
    (after i s).toCount = s.params.ticks ∧ (after i s).toRun = true := by
  obtain ⟨k, e⟩ := after_of_rolls h
  rw [e, roll_eq]
  exact ⟨rfl, rfl⟩

/-- Without a roll, an expiry or RESET, a stimulus keeps the power state and the flags that go with it. -/
theorem power_after_of_no_event {i : Instr} {s : State} (hroll : ¬rolls i s) (hexp : ¬expires i s) (hrst : i ≠ .rst) :
    (after i s).powerState = s.powerState ∧ (after i s).btnArmed = s.btnArmed ∧ (after i s).toRun = s.toRun := by
  cases i with
  | tot => simp [after, toTick_of_not_expires hexp]
  | svc => simp [after, service_of_not_rolls hroll]
  | rst => exact absurd rfl hrst
  | ent | ref | btn =>
    exact ⟨(after_frame _ s (r := .powerState) (by simp [mayWrite])).symm,
      (after_frame _ s (r := .btnArmed) (by simp [mayWrite])).symm,
      (after_frame _ s (r := .toRun) (by simp [mayWrite])).symm⟩

/-! ### The registers that go with each power state (43_power.md R170) -/

/-- `IDLE` with the registers that go with it. -/
structure State.AtRest (s : State) : Prop where
  idle : s.powerState = .idle
  armed : s.btnArmed = true
  refStopped : s.refRun = false
  toStopped : s.toRun = false
  reduced : s.clkFull = .reduced
  dark : s.Dark

/-- `DISPLAYING` with the registers that go with it. -/
structure State.OnShow (s : State) : Prop where
  displaying : s.powerState = .displaying
  disarmed : s.btnArmed = false
  refRuns : s.refRun = true
  toRuns : s.toRun = true
  full : s.clkFull = .full

/-- INV2 and INV3 say that the block is in one of the two states with the registers that go with it. -/
theorem inv2_and_inv3_iff (s : State) : s.Inv2 ∧ s.Inv3 ↔ s.AtRest ∨ s.OnShow := by
  constructor
  · rintro ⟨⟨harmed, href, hto, hclk⟩, hdark⟩
    cases hpow : s.powerState with
    | idle => exact .inl ⟨hpow, harmed.mp hpow, href.mp hpow, hto.mp hpow, hclk.mp hpow, hdark hpow⟩
    | displaying =>
      have hclk' : s.clkFull = .full := by
        cases hc : s.clkFull with
        | reduced => simp [hclk.mpr hc] at hpow
        | full => rfl
      simp only [hpow, reduceCtorEq, false_iff, Bool.not_eq_true, Bool.not_eq_false] at harmed href hto
      exact .inr ⟨hpow, harmed, href, hto, hclk'⟩
  · rintro (⟨hpow, harmed, href, hto, hclk, hdark⟩ | ⟨hpow, harmed, href, hto, hclk⟩)
    · exact ⟨by simp [State.Inv2, hpow, harmed, href, hto, hclk], fun _ => hdark⟩
    · exact ⟨by simp [State.Inv2, hpow, harmed, href, hto, hclk], fun h => by simp [hpow] at h⟩

theorem atRest_or_onShow_of_inv {s : State} (h : s.Inv) : s.AtRest ∨ s.OnShow := by
  obtain ⟨-, -, -, h2, h3, -⟩ := h
  exact (inv2_and_inv3_iff s).mp ⟨h2, h3⟩

theorem atRest_powerOn (p : Params) : (State.powerOn p).AtRest := ⟨rfl, rfl, rfl, rfl, rfl, rfl, rfl⟩

theorem onShow_after_of_rolls {i : Instr} {s : State} (h : rolls i s) : (after i s).OnShow := by
  obtain ⟨k, e⟩ := after_of_rolls h
  rw [e, roll_eq]
  exact ⟨rfl, rfl, rfl, rfl, rfl⟩

/-- Expiry and RESET bring the block to rest (43_power.md R173, 70_reset_and_hazards.md R230). -/
theorem atRest_after_of_stops {i : Instr} {s : State} (h : expires i s ∨ i = .rst) : (after i s).AtRest := by
  rcases h with he | rfl
  · rw [after_of_expires he]
    exact ⟨rfl, rfl, rfl, rfl, rfl, rfl, rfl⟩
  · exact ⟨rfl, rfl, rfl, rfl, rfl, rfl, rfl⟩

section NoEvent

variable {i : Instr} {s : State} (hroll : ¬rolls i s) (hexp : ¬expires i s) (hrst : i ≠ .rst)
include hroll hexp hrst

/-- At rest the refresh timer is stopped, so not even REF_TICK lights the display. -/
theorem atRest_after_of_no_event (h : s.AtRest) : (after i s).AtRest := by
  by_cases hi : i = .ref
  · subst hi
    rwa [show after .ref s = s from refTick_of_stopped h.refStopped]
  · obtain ⟨hpow, harmed, hto⟩ := power_after_of_no_event hroll hexp hrst
    obtain ⟨hseg, hdig, -⟩ := display_after_of_no_event hi hexp hrst
    exact ⟨hpow.trans h.idle, harmed.trans h.armed, (refRun_after_of_no_event hroll hexp hrst).trans h.refStopped,
      hto.trans h.toStopped, (clkFull_after_of_no_event hroll hexp hrst).trans h.reduced,
      hdig.trans h.dark.1, hseg.trans h.dark.2⟩

theorem onShow_after_of_no_event (h : s.OnShow) : (after i s).OnShow := by
  obtain ⟨hpow, harmed, hto⟩ := power_after_of_no_event hroll hexp hrst
  exact ⟨hpow.trans h.displaying, harmed.trans h.disarmed, (refRun_after_of_no_event hroll hexp hrst).trans h.refRuns,
    hto.trans h.toRuns, (clkFull_after_of_no_event hroll hexp hrst).trans h.full⟩

end NoEvent

/-- Every stimulus leaves the registers of one of the two power states. -/
theorem atRest_or_onShow_after (i : Instr) {s : State} (h : s.AtRest ∨ s.OnShow) :
    (after i s).AtRest ∨ (after i s).OnShow := by
  by_cases hroll : rolls i s
  · exact .inr (onShow_after_of_rolls hroll)
  · by_cases hstop : expires i s ∨ i = .rst
    · exact .inl (atRest_after_of_stops hstop)
    · obtain ⟨hexp, hrst⟩ := not_or.mp hstop
      exact h.imp (atRest_after_of_no_event hroll hexp hrst) (onShow_after_of_no_event hroll hexp hrst)

/-! ### The invariant along a stimulus (10_state.md section 13) -/

/-- No stimulus writes the parameters (70_reset_and_hazards.md R233). -/
theorem after_params (i : Instr) (s : State) : (after i s).params = s.params := by
  cases i with
  | ent smp v =>
    rcases entTick_cases smp v s with ⟨-, e⟩ | ⟨-, -, e⟩ | ⟨-, -, -, e⟩ | ⟨-, -, -, e⟩ <;> simp [after, e]
  | ref => rcases refTick_cases s with ⟨-, e⟩ | ⟨-, e⟩ <;> simp [after, e]
  | tot => rcases toTick_cases s with ⟨-, e⟩ | ⟨-, -, e⟩ | ⟨-, -, e⟩ <;> simp [after, e]
  | svc => rcases service_cases s with ⟨-, e⟩ | ⟨-, -, e⟩ | ⟨k, -, -, e⟩ <;> simp [after, e, roll_eq]
  | btn m => rfl
  | rst => rfl

/-- A mixed pool and a counted-down count keep their widths; a seed and a loaded count have the build's. -/
theorem widthsMatch_after (i : Instr) {s : State} (h : s.WidthsMatch) : (after i s).WidthsMatch := by
  obtain ⟨hpool, hcount⟩ := h
  rw [State.WidthsMatch, after_params]
  cases i with
  | ent smp v =>
    have hw : (entTick smp v s).pool.width = s.pool.width := by
      rw [entTick_pool]
      cases emission smp v s <;> rfl
    have hc : (entTick smp v s).toCount = s.toCount := (entTick_frame smp v s (r := .toCount) (by simp [mayWrite])).symm
    exact ⟨hw.trans hpool, (congrArg _ hc).trans hcount⟩
  | tot =>
    refine ⟨(congrArg _ (toTick_frame s (r := .pool) (by simp [mayWrite])).symm).trans hpool, ?_⟩
    rcases toTick_cases s with ⟨-, e⟩ | ⟨-, -, e⟩ | ⟨-, -, e⟩ <;> simp [after, e, hcount]
  | svc =>
    refine ⟨(congrArg _ (service_frame s (r := .pool) (by simp [mayWrite])).symm).trans hpool, ?_⟩
    rcases service_cases s with ⟨-, e⟩ | ⟨-, -, e⟩ | ⟨k, -, -, e⟩ <;> simp [after, e, roll_eq, hcount]
  | rst => exact ⟨rfl, rfl⟩
  | ref | btn =>
    exact ⟨(congrArg _ (after_frame _ s (r := .pool) (by simp [mayWrite])).symm).trans hpool,
      (congrArg _ (after_frame _ s (r := .toCount) (by simp [mayWrite])).symm).trans hcount⟩

/-- INV1: whatever disarms clears the edge, and an edge is set while armed only. -/
theorem inv1_after (i : Instr) {s : State} (h : s.Inv1) : (after i s).Inv1 := by
  intro hp
  have hclear : ¬(i = .svc ∨ expires i s ∨ i = .rst) := fun hc => by simp [btnPending_after_of_clears hc] at hp
  obtain ⟨hsvc, hexp, hrst⟩ := not_or.mp hclear |>.imp_right not_or.mp
  obtain ⟨-, harmed, -⟩ := power_after_of_no_event (fun hroll => hsvc hroll.1) hexp hrst
  rw [harmed]
  by_cases hb : ∃ m, i = .btn m
  · obtain ⟨m, rfl⟩ := hb
    exact ((btnPending_after_btn m s).mp hp).elim And.left h
  · rw [btnPending_after_of_not_clears (not_exists.mp hb) hclear] at hp
    exact h hp

/-- A stimulus that is no roll, expiry or RESET leaves the shown pair, and takes from a running count what TO_TICK
takes. -/
theorem shown_after_of_no_event {i : Instr} {s : State} (hroll : ¬rolls i s) (hexp : ¬expires i s) (hrst : i ≠ .rst)
    (hrun : s.toRun = true) :
    (after i s).curValue = s.curValue ∧ (after i s).showMask = s.showMask ∧
      (after i s).toCount.toNat + [i].count .tot = s.toCount.toNat := by
  cases i with
  | tot =>
    have hcount : 2 ≤ s.toCount.toNat := by
      by_contra hlt
      exact hexp ⟨rfl, hrun, by omega⟩
    rw [after, toTick_of_not_expires hexp, if_pos hrun]
    refine ⟨rfl, rfl, ?_⟩
    rw [State.setCount_toCount, toNat_countAfter, List.count_singleton_self]
    omega
  | svc => simp [after, service_of_not_rolls hroll]
  | rst => exact absurd rfl hrst
  | ent | ref | btn =>
    exact ⟨(after_frame _ s (r := .curValue) (by simp [mayWrite])).symm,
      (after_frame _ s (r := .showMask) (by simp [mayWrite])).symm,
      congrArg Sized.toNat (after_frame _ s (r := .toCount) (by simp [mayWrite])).symm⟩

/-- A running tick that does not expire is not the last one. -/
theorem count_lt_of_not_expires {i : Instr} {s : State} (hexp : ¬expires i s) (hrun : s.toRun = true)
    (hcount : 1 ≤ s.toCount.toNat) : [i].count .tot < s.toCount.toNat := by
  by_cases hi : i = .tot
  · subst hi
    have hlast : ¬s.toCount.toNat ≤ 1 := fun hle => hexp ⟨rfl, hrun, hle⟩
    rw [List.count_singleton_self]
    omega
  · rw [List.count_eq_zero.mpr (by simpa using Ne.symm hi)]
    omega

/-- A roll of a legal build shows a drawn value for `TIMEOUT_TICKS` ticks. -/
theorem inv5_after_of_rolls {i : Instr} {s : State} (hwf : s.params.wf = true) (h : rolls i s) : (after i s).Inv5 := by
  intro _
  obtain ⟨k, e⟩ := after_of_rolls h
  have hfaces := faces_le_twenty s.params.die[k]
  have hdraw := draw_le (faces_pos s.params.die[k]) s.pool
  obtain ⟨-, -, -, hticks, -⟩ := (wf_iff s.params).mp hwf
  rw [(countdown_after_of_rolls h).1, after_params, toNat_ticks hwf, e, roll_eq]
  simp only [State.setPending_params, State.setArmed_params, State.setPending_pool, State.setArmed_pool,
    toNat_shown_draw]
  exact ⟨one_le_draw .., hdraw.trans hfaces, getDigit_rollMask_ones .., hticks, le_rfl⟩

/-- INV5: a roll establishes it, a stop leaves `DISPLAYING`, and a tick that does not expire leaves at least 1. -/
theorem inv5_after (i : Instr) {s : State} (h : s.Inv) : (after i s).Inv5 := by
  obtain ⟨hwf, -, -, ⟨-, -, hto, -⟩, -, -, h5⟩ := h
  by_cases hroll : rolls i s
  · exact inv5_after_of_rolls hwf hroll
  intro hdisp
  by_cases hstop : expires i s ∨ i = .rst
  · simp [(atRest_after_of_stops hstop).idle] at hdisp
  obtain ⟨hexp, hrst⟩ := not_or.mp hstop
  rw [(power_after_of_no_event hroll hexp hrst).1] at hdisp
  have hrun : s.toRun = true := by simpa [hdisp] using hto
  obtain ⟨hone, htwenty, hones, hpos, hle⟩ := h5 hdisp
  obtain ⟨hvalue, hmask, hcount⟩ := shown_after_of_no_event hroll hexp hrst hrun
  have hlt := count_lt_of_not_expires hexp hrun hpos
  rw [hvalue, hmask, after_params]
  exact ⟨hone, htwenty, hones, by omega, by omega⟩

/-- Every stimulus keeps the invariant. -/
theorem inv_after (i : Instr) {s : State} (h : s.Inv) : (after i s).Inv := by
  have h5 := inv5_after i h
  obtain ⟨h2, h3⟩ := (inv2_and_inv3_iff _).mpr (atRest_or_onShow_after i (atRest_or_onShow_of_inv h))
  obtain ⟨hwf, hwidths, h1, -, -, h4, -⟩ := h
  exact ⟨by rwa [after_params], widthsMatch_after i hwidths, inv1_after i h1, h2, h3, inv4_after i h4, h5⟩

/-! ### The countdown along a script (43_power.md R174) -/

theorem toRun_of_inv_of_displaying {s : State} (h : s.Inv) (hdisp : s.powerState = .displaying) : s.toRun = true := by
  rcases atRest_or_onShow_of_inv h with hrest | hshow
  · simp [hrest.idle] at hdisp
  · exact hshow.toRuns

theorem not_rolls_of_inv_of_displaying {s : State} (h : s.Inv) (hdisp : s.powerState = .displaying) (i : Instr) :
    ¬rolls i s := fun ⟨_, hp, _⟩ => by simp [btnPending_of_inv_of_displaying h hdisp] at hp

/-- While fewer TO_TICKs come than the count holds, the block stays `DISPLAYING`, the value is kept, and each
TO_TICK takes one from the count. -/
theorem afterAll_of_count_lt {is : List Instr} (hrst : .rst ∉ is) {s : State} (hinv : s.Inv)
    (hdisp : s.powerState = .displaying) (hlt : is.count .tot < s.toCount.toNat) :
    (afterAll is s).Inv ∧ (afterAll is s).powerState = .displaying ∧
      (afterAll is s).toCount.toNat + is.count .tot = s.toCount.toNat ∧ (afterAll is s).curValue = s.curValue := by
  induction is generalizing s with
  | nil => exact ⟨hinv, hdisp, rfl, rfl⟩
  | cons i is ih =>
    obtain ⟨hi, his⟩ := List.ne_and_not_mem_of_not_mem_cons hrst
    have hsplit : (i :: is).count .tot = [i].count .tot + is.count .tot := List.count_append (l₁ := [i])
    have hroll := not_rolls_of_inv_of_displaying hinv hdisp i
    have hexp : ¬expires i s := by
      rintro ⟨rfl, -, hlast⟩
      rw [List.count_singleton_self] at hsplit
      omega
    obtain ⟨hpow, -, -⟩ := power_after_of_no_event hroll hexp hi.symm
    obtain ⟨hvalue, -, hcount⟩ :=
      shown_after_of_no_event hroll hexp hi.symm (toRun_of_inv_of_displaying hinv hdisp)
    obtain ⟨hinv', hdisp', hcount', hvalue'⟩ := ih his (inv_after i hinv) (hpow.trans hdisp) (by omega)
    refine ⟨hinv', hdisp', ?_, hvalue'.trans hvalue⟩
    calc (afterAll is (after i s)).toCount.toNat + (i :: is).count .tot
        = ((afterAll is (after i s)).toCount.toNat + is.count .tot) + [i].count .tot := by omega
      _ = (after i s).toCount.toNat + [i].count .tot := by rw [hcount']
      _ = s.toCount.toNat := hcount

/-- The TO_TICK that finds 1 left expires. -/
theorem runScript_append_tot (is : List Instr) {s : State} (hexp : expires .tot (afterAll is s)) :
    runScript (is ++ [.tot]) s = .next { (afterAll is s).expire with script := [] } := by
  have hsplit : afterAll (is ++ [.tot]) s = after .tot (afterAll is s) := List.foldl_append ..
  rw [runScript_eq, hsplit, after_of_expires hexp]

/-! ### The obligations -/

/-- Settles O38: the equation of an expiring tick. -/
theorem expiryReturnsToIdle : Obligations.ExpiryReturnsToIdle :=
  fun _ hrun hcount => exec_tot_of_expires ⟨rfl, hrun, hcount⟩

/-- Settles O37, by the equation of each case; the last clause by induction on the ticks (`afterAll_wait`). -/
theorem toTickCountsDown : Obligations.ToTickCountsDown := by
  refine ⟨rfl, fun s => ⟨fun h => congrArg _ (toTick_of_stopped h),
    fun hrun hcount => congrArg _ (toTick_of_running hrun hcount),
    fun hrun hcount => exec_tot_of_expires ⟨rfl, hrun, hcount⟩, fun n hrun hcount => ?ticks⟩⟩
  case ticks =>
    have hwait := runScript_eq (wait n) s
    rw [afterAll_wait le_rfl hrun hcount] at hwait
    have hlast : (Sized.of s.toCount.width 1).toNat ≤ 1 := (toNat_of ..).trans_le (Nat.mod_le ..)
    exact ⟨_, _, hwait, hrun, rfl, exec_tot_of_expires ⟨rfl, hrun, hlast⟩, rfl⟩

/-- Settles O40: the three events that write the power state, and the rest, which keep it. -/
theorem powerStateTransitions : Obligations.PowerStateTransitions := by
  intro i s t ht
  obtain rfl := eq_after_of_exec ht
  exact ⟨fun hroll => ⟨(onShow_after_of_rolls hroll).displaying, (countdown_after_of_rolls hroll).1⟩,
    fun hexp => (atRest_after_of_stops (.inl hexp)).idle, fun hrst => (atRest_after_of_stops (.inr hrst)).idle,
    fun hroll hexp hrst => (power_after_of_no_event hroll hexp hrst).1⟩

/-- Settles O41: power-on is at rest, and every step keeps one of the two sets of registers. -/
theorem registersGoWithThePowerState : Obligations.RegistersGoWithThePowerState := by
  intro t ht
  have hregs : t.AtRest ∨ t.OnShow := by
    rcases ht with ⟨p, -, rfl⟩ | ⟨s, hinv, hstep⟩
    · exact .inl (atRest_powerOn p)
    · rcases step_cases hstep with ⟨-, rfl⟩ | ⟨w, rest, i, -, -, rfl⟩
      · exact atRest_or_onShow_of_inv hinv
      · rw [← after_script]
        exact atRest_or_onShow_after i (atRest_or_onShow_of_inv hinv)
  rcases hregs with ⟨hpow, harmed, href, hto, hclk, hdig, hseg⟩ | ⟨hpow, harmed, href, hto, hclk⟩
  · exact ⟨fun _ => ⟨harmed, href, hto, hclk, hdig, hseg⟩, fun h => by simp [hpow] at h⟩
  · exact ⟨fun h => by simp [hpow] at h, fun _ => ⟨harmed, href, hto, hclk⟩⟩

/-- Settles O39: a roll loads the countdown, and by induction on the script each TO_TICK takes one from it. -/
theorem countdownExpiresOnTheLastTick : Obligations.CountdownExpiresOnTheLastTick := by
  refine ⟨fun s t hroll ht => ?roll, fun s is hinv hdisp hrst => ⟨fun hlt => ?running, fun hlast => ?last⟩⟩
  case roll =>
    obtain rfl := eq_after_of_exec ht
    obtain ⟨hcount, hrun⟩ := countdown_after_of_rolls hroll
    exact ⟨hcount, hrun, fun hwf => by rw [hcount, toNat_ticks hwf]⟩
  case running =>
    obtain ⟨hinv', hdisp', hcount, hvalue⟩ := afterAll_of_count_lt hrst hinv hdisp hlt
    exact ⟨_, runScript_eq is s, hdisp', toRun_of_inv_of_displaying hinv' hdisp', hcount, hvalue⟩
  case last =>
    obtain ⟨hinv', hdisp', hcount, hvalue⟩ := afterAll_of_count_lt hrst hinv hdisp (by omega)
    have hexp : expires .tot (afterAll is s) := ⟨rfl, toRun_of_inv_of_displaying hinv' hdisp', by omega⟩
    exact ⟨_, runScript_append_tot is hexp, rfl, rfl, rfl, ⟨rfl, rfl⟩, hvalue⟩

end Sys2Proof.Machine

/-! The family of 60_exceptions.md: every stimulus completes (R200) and only a reserved word is refused (R204). The laws
of one step come first, then the two obligations. -/

namespace Sys2Proof.Machine

/-! ### What a step answers (60_exceptions.md R204, R206) -/

/-- A stimulus takes no word off the script and adds none. -/
theorem after_script_eq (i : Instr) (s : State) : (after i s).script = s.script :=
  (congrArg State.script (after_script i s s.script) :)

/-- The idle step (assumption log 1). -/
theorem step_of_script_nil {s : State} (hs : s.script = []) : step s = .next s := by
  simp [step, State.presented, hs]

/-- The step of a presented stimulus, forward where `step_cases` inverts it. -/
theorem step_of_decode_eq_some {s : State} {w : Word} {rest : List Word} {i : Instr} (hs : s.script = w :: rest)
    (hd : decode w = some i) : step s = .next { after i s with script := rest } := by
  simp [step, State.presented, State.advance, hs, hd, exec_eq_after, after_script]

/-- A step answers a next state unless a reserved word is presented. -/
theorem step_next_or_reserved (s : State) :
    (∃ t, step s = .next t) ∨ ∃ (w : Word) (rest : List Word), s.script = w :: rest ∧ decode w = none := by
  cases hs : s.script with
  | nil => exact .inl ⟨_, step_of_script_nil hs⟩
  | cons w rest =>
    cases hd : decode w with
    | none => exact .inr ⟨w, rest, rfl, hd⟩
    | some i => exact .inl ⟨_, step_of_decode_eq_some hs hd⟩

/-! ### The obligations -/

/-- Settles O6: a step that does not answer a next state refuses the reserved word presented, and the model's type of
faults is empty (assumption log 17). -/
theorem reservedWordIsTheOnlyRefusal : Obligations.ReservedWordIsTheOnlyRefusal := by
  refine fun s => ⟨nofun, fun r => ⟨fun hrefused => ?reserved, fun ⟨hr, w, rest, hs, hd⟩ =>
    hr ▸ step_of_decode_eq_none hs hd⟩⟩
  case reserved =>
    rcases step_next_or_reserved s with ⟨t, hnext⟩ | ⟨w, rest, hs, hd⟩
    · simp [hnext] at hrefused
    · rw [step_of_decode_eq_none hs hd] at hrefused
      injection hrefused with hr
      exact ⟨hr.symm, w, rest, hs, hd⟩

/-- Settles O7: every arm of exec answers the next state `after`, which keeps the script and the parameters. -/
theorem everyStimulusCompletes : Obligations.EveryStimulusCompletes :=
  fun i s => ⟨after i s, exec_eq_after i s, after_script_eq i s, after_params i s⟩

end Sys2Proof.Machine

/-! The family of 70_reset_and_hazards.md: what RESET leaves and what power-on is (R230 to R232). The law that ties the
two comes first, then the two obligations. -/

namespace Sys2Proof.Machine

/-! ### RESET (70_reset_and_hazards.md R230, R231) -/

/-- RESET leaves the build's power-on state but for the button lines and the waiting script, which it does not own. -/
theorem resetRegisters_eq_powerOn (s : State) :
    resetRegisters s = { State.powerOn s.params with btnLines := s.btnLines, script := s.script } := rfl

/-- From a state with the lines at `BTN_INIT` and nothing waiting, RESET leaves the power-on state itself. -/
theorem resetRegisters_of_initial {s : State} (hlines : s.btnLines = s.params.btnInit) (hscript : s.script = []) :
    resetRegisters s = State.powerOn s.params := by
  rw [resetRegisters_eq_powerOn, hlines, hscript]
  rfl

/-- No sample is pending at power-on, so the first valid one is stored (40_entropy.md R100). -/
theorem entTick_valid_powerOn (smp : Bool) (p : Params) :
    entTick smp true (State.powerOn p) = (State.powerOn p).storeSample smp :=
  entTick_of_none_pending rfl rfl

/-! ### The obligations -/

/-- Settles O43: the power-on values, register by register, around the lines and the script of the state RESET meets. -/
theorem resetWritesEveryRegisterButTheLines : Obligations.ResetWritesEveryRegisterButTheLines :=
  ⟨rfl, fun s => congrArg Host.Outcome.next (resetRegisters_eq_powerOn s)⟩

/-- Settles O44: RESET from the initial lines leaves power-on, which is at rest with no sample pending. -/
theorem powerOnIsAReset : Obligations.PowerOnIsAReset := by
  rintro p s rfl hlines hscript
  obtain ⟨hidle, harmed, href, hto, hreduced, hdark⟩ := atRest_powerOn s.params
  exact ⟨congrArg _ (resetRegisters_of_initial hlines hscript), hidle, harmed, href, hto, hdark, hreduced,
    fun smp => congrArg _ (entTick_valid_powerOn smp s.params)⟩

end Sys2Proof.Machine

/-! The other statements on 30_encoding.md: decode and encode, the opcode table and the disassembler (R71 to R78), and
the step that runs what a word decodes to. The laws come first, then the five obligations. -/

namespace Sys2Proof.Machine

/-! ### A word is its fields (30_encoding.md R71) -/

/-- Format N: the must-be-zero bits and the opcode. -/
theorem append_fields_of_formatN (w : Word) : w.extractLsb' 4 12 ++ opField w = w :=
  (BitVec.extractLsb'_append_extractLsb'_eq_extractLsb' rfl).trans BitVec.extractLsb'_eq_self

/-- Format B: the must-be-zero bits, the button lines and the opcode. -/
theorem append_fields_of_formatB (w : Word) : w.extractLsb' 10 6 ++ w.extractLsb' 4 6 ++ opField w = w := by
  rw [BitVec.extractLsb'_append_extractLsb'_eq_extractLsb' (show 10 = 4 + 6 from rfl)]
  exact append_fields_of_formatN w

theorem ofBool_getLsbD_eq_extractLsb' (w : Word) (n : Nat) : BitVec.ofBool (w.getLsbD n) = w.extractLsb' n 1 := by
  refine BitVec.eq_of_getLsbD_eq fun i hi => ?_
  obtain rfl : i = 0 := by omega
  simp

/-- Format E: the must-be-zero bits, the validity, the sample and the opcode. -/
theorem append_fields_of_formatE (w : Word) :
    w.extractLsb' 6 10 ++ BitVec.ofBool (w.getLsbD 5) ++ BitVec.ofBool (w.getLsbD 4) ++ opField w = w := by
  rw [ofBool_getLsbD_eq_extractLsb', ofBool_getLsbD_eq_extractLsb',
    BitVec.extractLsb'_append_extractLsb'_eq_extractLsb' (show 6 = 5 + 1 from rfl),
    BitVec.extractLsb'_append_extractLsb'_eq_extractLsb' (show 5 = 4 + 1 from rfl)]
  exact append_fields_of_formatN w

/-! ### Decoding inverts encoding (30_encoding.md R77) -/

section Inverse

variable {w : Word}

theorem encode_ent_eq (hop : opField w = 0x1) (hzero : w.extractLsb' 6 10 = 0) :
    encode (.ent (w.getLsbD 4) (w.getLsbD 5)) = w := by
  have h := append_fields_of_formatE w
  rwa [hop, hzero] at h

theorem encode_btn_eq (hop : opField w = 0x5) (hzero : w.extractLsb' 10 6 = 0) :
    encode (.btn (w.extractLsb' 4 6)) = w := by
  have h := append_fields_of_formatB w
  rwa [hop, hzero] at h

/-- A stimulus without operands is its opcode under zeros. -/
theorem encode_eq_of_formatN {i : Instr} (hi : encode i = 0#12 ++ opcode i) (hop : opField w = opcode i)
    (hzero : w.extractLsb' 4 12 = 0) : encode i = w := by
  have h := append_fields_of_formatN w
  rw [hop, hzero] at h
  exact hi.trans h

/-- One opcode's arm of the decoder gives a stimulus only under its condition. -/
theorem encode_eq_of_arm {c : Prop} [Decidable c] {i j : Instr} (hd : (if c then some j else none) = some i)
    (hj : c → encode j = w) : encode i = w := by
  obtain ⟨hc, hi⟩ := Option.ite_none_right_eq_some.mp hd
  exact Option.some.inj hi ▸ hj hc

/-- The decoder reads each operand where the encoder lays it. -/
theorem encode_eq_of_decode {i : Instr} (hd : decode w = some i) : encode i = w := by
  rcases opcode_cases (opField w) with h | h | h | h | h | h | h | h
  · simp [decode_of_opField_zero h] at hd
  · exact encode_eq_of_arm (decode_of_opField_ent h ▸ hd) (encode_ent_eq h)
  · exact encode_eq_of_arm (decode_of_opField_ref h ▸ hd) (encode_eq_of_formatN (i := .ref) rfl h)
  · exact encode_eq_of_arm (decode_of_opField_tot h ▸ hd) (encode_eq_of_formatN (i := .tot) rfl h)
  · exact encode_eq_of_arm (decode_of_opField_svc h ▸ hd) (encode_eq_of_formatN (i := .svc) rfl h)
  · exact encode_eq_of_arm (decode_of_opField_btn h ▸ hd) (encode_btn_eq h)
  · exact encode_eq_of_arm (decode_of_opField_rst h ▸ hd) (encode_eq_of_formatN (i := .rst) rfl h)
  · simp [decode_of_seven_le_opField h] at hd

end Inverse

/-! ### The opcode table (30_encoding.md R71, R75, R76) -/

section Table

variable {w : Word}

/-- Every encoding matches its row, from the lemma of its constructor. -/
theorem wf_encode (i : Instr) : Word.wf (encode i) = true := by
  cases i with
  | ent smp v => exact (Laws.LegalWord.ent smp v).2
  | ref => exact Laws.LegalWord.ref.2
  | tot => exact Laws.LegalWord.tot.2
  | svc => exact Laws.LegalWord.svc.2
  | btn m => exact (Laws.LegalWord.btn m).2
  | rst => exact Laws.LegalWord.rst.2

/-- A mask that keeps every bit of a field keeps the field. -/
theorem extractLsb'_of_masked {start len : Nat} {mask m : Word} (h : w &&& mask = m)
    (hkeep : mask.extractLsb' start len = BitVec.allOnes len) : w.extractLsb' start len = m.extractLsb' start len := by
  rw [← h, BitVec.extractLsb'_and, hkeep, BitVec.and_allOnes]

theorem decode_of_entRow (h : w &&& 0xFFCF = 0x0001) : decode w = some (.ent (w.getLsbD 4) (w.getLsbD 5)) := by
  have hop : opField w = 0x1 := extractLsb'_of_masked h (by decide)
  have hzero : w.extractLsb' 6 10 = 0 := extractLsb'_of_masked h (by decide)
  rw [decode_of_opField_ent hop, if_pos hzero]

theorem decode_of_btnRow (h : w &&& 0xFC0F = 0x0005) : decode w = some (.btn (w.extractLsb' 4 6)) := by
  have hop : opField w = 0x5 := extractLsb'_of_masked h (by decide)
  have hzero : w.extractLsb' 10 6 = 0 := extractLsb'_of_masked h (by decide)
  rw [decode_of_opField_btn hop, if_pos hzero]

theorem exists_decode_of_wf (h : Word.wf w = true) : ∃ i, decode w = some i := by
  simp only [Word.wf, Bool.or_eq_true, beq_iff_eq] at h
  rcases h with ((((h | rfl) | rfl) | rfl) | h) | rfl
  · exact ⟨_, decode_of_entRow h⟩
  · exact ⟨.ref, rfl⟩
  · exact ⟨.tot, rfl⟩
  · exact ⟨.svc, rfl⟩
  · exact ⟨_, decode_of_btnRow h⟩
  · exact ⟨.rst, rfl⟩

end Table

/-! ### Script text (30_encoding.md R78) -/

/-- All masks, one by one: each of the 64 lines is read back. -/
theorem assembleLine_disassemble_btn (m : Lines) : assembleLine (disassemble (.btn m)) = some [.btn m] := by
  revert m; decide

/-! ### The obligations -/

/-- Settles O2: each format is its fields put together again, and every stimulus decodes from its word. -/
theorem decodeEncodeAgree : Obligations.DecodeEncodeAgree := by
  refine fun w i => ⟨encode_eq_of_decode, ?_⟩
  rintro rfl
  exact decode_encode_of i

/-- Settles O4: a mask keeps the opcode and the must-be-zero bits, and every encoding matches its row. -/
theorem opcodeTableMatchesDecoder : Obligations.OpcodeTableMatchesDecoder := by
  refine fun w => ⟨exists_decode_of_wf, ?_⟩
  rintro ⟨i, hd⟩
  exact encode_eq_of_decode hd ▸ wf_encode i

/-- Settles O1: the decoder, evaluated at each word. -/
theorem writtenOutWordsDecode : Obligations.WrittenOutWordsDecode := by
  unfold Obligations.WrittenOutWordsDecode
  decide

/-- Settles O5, from the step of a presented stimulus and the idle step. -/
theorem stepRunsPresentedStimulus : Obligations.StepRunsPresentedStimulus := by
  refine ⟨fun s w rest i hs hd => ⟨?runs, fun t ht => ?waits⟩, fun s => step_of_script_nil⟩
  case runs =>
    rw [step_of_decode_eq_some hs hd, exec_eq_after]
    exact congrArg _ (after_script i s rest).symm
  case waits =>
    obtain rfl := eq_after_of_exec ht
    exact after_script_eq i _

/-- Settles O54, by the stimulus, its sample and validity or its mask. -/
theorem disassemblyReassembles : Obligations.DisassemblyReassembles := by
  intro i
  cases i with
  | ent smp v => cases smp <;> cases v <;> rfl
  | btn m => exact assembleLine_disassemble_btn m
  | ref | tot | svc | rst => rfl

end Sys2Proof.Machine

/-! The other statements on runs: what power-on satisfies and every step keeps (10_state.md section 13; 20_memory.md
R59; 60_exceptions.md R207, R208; 70_reset_and_hazards.md R233, R240). The laws come first, then the seven
obligations. -/

namespace Sys2Proof.Machine

/-! ### From one stimulus to a step and to a script -/

/-- A property that does not look at the waiting words and that every stimulus keeps is kept by every step. -/
theorem step_keeps {P : State → Prop} (hscript : ∀ s ws, P s → P { s with script := ws })
    (hafter : ∀ i s, P s → P (after i s)) {s t : State} (hs : P s) (ht : step s = .next t) : P t := by
  rcases step_cases ht with ⟨-, rfl⟩ | ⟨w, rest, i, -, -, rfl⟩
  · exact hs
  · exact hscript _ _ (hafter i s hs)

/-- A property that every stimulus of a script keeps is kept by the script. -/
theorem afterAll_keeps {P : State → Prop} {is : List Instr} (hafter : ∀ i ∈ is, ∀ s, P s → P (after i s))
    {s : State} (hs : P s) : P (afterAll is s) := by
  induction is generalizing s with
  | nil => exact hs
  | cons i is ih =>
    obtain ⟨hi, his⟩ := List.forall_mem_cons.mp hafter
    exact ih his (hi s hs)

/-! ### The invariant at power-on (10_state.md section 13) -/

theorem inv_powerOn {p : Params} (hwf : p.wf = true) : (State.powerOn p).Inv := by
  obtain ⟨h2, h3⟩ := (inv2_and_inv3_iff _).mpr (.inl (atRest_powerOn p))
  have h1 : (State.powerOn p).Inv1 := fun _ => rfl
  have h4 : (State.powerOn p).Inv4 := atMostOneDigit_of_off (getDigit_zero .ones)
  have h5 : (State.powerOn p).Inv5 := nofun
  exact ⟨hwf, ⟨rfl, rfl⟩, h1, h2, h3, h4, h5⟩

/-! ### The digit driven next (70_reset_and_hazards.md R240) -/

/-- A refresh that acts leaves off the digit it did not drive, which is the one driven next; expiry and RESET leave
both off, and no other stimulus writes the enables or the phase. -/
theorem drivenDigitOff_after (i : Instr) {s : State} (h : s.DrivenDigitOff) : (after i s).DrivenDigitOff := by
  by_cases href : i = .ref
  · subst href
    rcases refTick_cases s with ⟨-, e⟩ | ⟨-, e⟩
    · rwa [show after .ref s = s from e]
    · simp [after, State.DrivenDigitOff, e]
  by_cases hstop : expires i s ∨ i = .rst
  · obtain ⟨hdig, -⟩ := (atRest_after_of_stops hstop).dark
    rw [State.DrivenDigitOff, hdig, getDigit_zero]
  · obtain ⟨hexp, hrst⟩ := not_or.mp hstop
    obtain ⟨-, hdig, hactive⟩ := display_after_of_no_event href hexp hrst
    rwa [State.DrivenDigitOff, hdig, hactive]

/-! ### The shown pair (20_memory.md R59, 42_input.md R156) -/

/-- A roll and RESET alone write the shown pair. -/
theorem shownPair_after_of_not_rolls {i : Instr} {s : State} (hroll : ¬rolls i s) (hrst : i ≠ .rst) :
    (after i s).curValue = s.curValue ∧ (after i s).showMask = s.showMask := by
  cases i with
  | svc => simp [after, service_of_not_rolls hroll]
  | rst => exact absurd rfl hrst
  | ent | ref | tot | btn =>
    exact ⟨(after_frame _ s (r := .curValue) (by simp [mayWrite])).symm,
      (after_frame _ s (r := .showMask) (by simp [mayWrite])).symm⟩

theorem coherent_after (i : Instr) {s : State} (h : s.Coherent) : (after i s).Coherent := by
  by_cases hroll : rolls i s
  · obtain rfl := hroll.1
    intro _
    rw [after_params]
    exact showMask_service_of_rolls hroll
  intro hdisp
  by_cases hstop : expires i s ∨ i = .rst
  · simp [(atRest_after_of_stops hstop).idle] at hdisp
  · obtain ⟨hexp, hrst⟩ := not_or.mp hstop
    obtain ⟨hvalue, hmask⟩ := shownPair_after_of_not_rolls hroll hrst
    rw [(power_after_of_no_event hroll hexp hrst).1] at hdisp
    rw [hvalue, hmask, after_params]
    exact h hdisp

/-! ### Events due at once (60_exceptions.md R208) -/

/-- At rest no countdown runs, so without a service the block stays at rest. -/
theorem atRest_after_of_ne_svc {i : Instr} (hsvc : i ≠ .svc) {s : State} (h : s.AtRest) : (after i s).AtRest := by
  by_cases hrst : i = .rst
  · exact atRest_after_of_stops (.inr hrst)
  · have hexp : ¬expires i s := fun ⟨_, hrun, _⟩ => by simp [h.toStopped] at hrun
    exact atRest_after_of_no_event (fun hroll => hsvc hroll.1) hexp hrst h

/-- TO_TICK is served after BTN_SERVICE and before everything else but RESET. -/
theorem serve_of_tot {d : Due} (htot : d.tot = true) (hrst : d.rst = false) :
    ∃ rest, .svc ∉ rest ∧ d.serve = (if d.svc = true then [.svc] else []) ++ .tot :: rest := by
  rcases hent : d.ent with _ | ⟨smp, v⟩
  · exact ⟨if d.ref = true then [.ref] else [], by cases d.ref <;> simp, by simp [Due.serve, htot, hrst, hent]⟩
  · exact ⟨.ent smp v :: if d.ref = true then [.ref] else [], by cases d.ref <;> simp,
      by simp [Due.serve, htot, hrst, hent]⟩

/-- While `DISPLAYING` no edge is pending (INV6), so serving BTN_SERVICE first changes nothing. -/
theorem afterAll_service_of_displaying {s : State} (h : s.Inv) (hdisp : s.powerState = .displaying) (b : Bool) :
    afterAll (if b = true then [.svc] else []) s = s := by
  cases b with
  | false => rfl
  | true => exact service_of_no_edge (btnPending_of_inv_of_displaying h hdisp)

/-! ### The obligations -/

/-- Settles O46, from the law that every stimulus keeps the invariant, which does not look at the script. -/
theorem stepKeepsInvariant : Obligations.StepKeepsInvariant :=
  fun _ _ hs ht => step_keeps (P := State.Inv) (fun _ _ h => h) (fun i _ => inv_after i) hs ht

/-- Settles O45: power-on is at rest, and a legal build's seed fits the pool. -/
theorem powerOnSatisfiesInvariant : Obligations.PowerOnSatisfiesInvariant := by
  refine ⟨fun p hwf => ?_, inv_powerOn (by decide)⟩
  obtain ⟨hwidth, hseed, -⟩ := (wf_iff p).mp hwf
  exact ⟨inv_powerOn hwf, rfl, hwidth, toNat_seed hwf, hseed⟩

/-- Settles O47, by induction on the script: every stimulus keeps the invariant and the parameters. -/
theorem everyScriptRunsWithinTheInvariant : Obligations.EveryScriptRunsWithinTheInvariant := by
  intro p is hwf
  have hinv : (afterAll is (State.powerOn p)).Inv :=
    afterAll_keeps (P := State.Inv) (fun i _ _ => inv_after i) (inv_powerOn hwf)
  have hparams : (afterAll is (State.powerOn p)).params = p :=
    afterAll_keeps (P := fun s => s.params = p) (fun i _ s => (after_params i s).trans) rfl
  exact ⟨_, runScript_eq is _, hinv, hparams, rfl⟩

/-- Settles O50, from the law that no stimulus writes the parameters. -/
theorem parametersAreConstant : Obligations.ParametersAreConstant :=
  fun s _ => step_keeps (P := fun u => u.params = s.params) (fun _ _ h => h) (fun i u => (after_params i u).trans) rfl

/-- Settles O27: at power-on every digit is off, and every stimulus keeps the driven one off. -/
theorem drivenDigitStaysOff : Obligations.DrivenDigitStaysOff :=
  ⟨fun _ => getDigit_zero .ones, fun _ _ hs ht =>
    step_keeps (P := State.DrivenDigitOff) (fun _ _ h => h) (fun i _ => drivenDigitOff_after i) hs ht⟩

/-- Settles O52: power-on is `IDLE`, a roll writes value and mask together, and no other stimulus splits the pair. -/
theorem shownPairComesFromOneRoll : Obligations.ShownPairComesFromOneRoll :=
  ⟨fun _ => nofun, fun _ _ hs ht =>
    step_keeps (P := State.Coherent) (fun _ _ h => h) (fun i _ => coherent_after i) hs ht⟩

/-- Settles O53: the service does nothing, the tick expires, and what is served after it leaves the block at rest. -/
theorem expiryBlanksBeforeARefreshOfTheSameCycle : Obligations.ExpiryBlanksBeforeARefreshOfTheSameCycle := by
  intro d s hinv hdisp hcount htot hrst
  obtain ⟨rest, hsvc, hserve⟩ := serve_of_tot htot hrst
  have hexp : expires .tot s := ⟨rfl, toRun_of_inv_of_displaying hinv hdisp, hcount.le⟩
  have hrest : (afterAll rest (after .tot s)).AtRest :=
    afterAll_keeps (P := State.AtRest) (fun i hi _ => atRest_after_of_ne_svc (ne_of_mem_of_not_mem hi hsvc))
      (atRest_after_of_stops (.inl hexp))
  have hfold : afterAll d.serve s = afterAll rest (after .tot s) := by
    rw [hserve, afterAll, List.foldl_append]
    exact congrArg (afterAll (.tot :: rest)) (afterAll_service_of_displaying hinv hdisp d.svc)
  refine ⟨_, runScript_eq d.serve s, ?_⟩
  rw [hfold]
  exact ⟨hrest.idle, hrest.dark⟩

end Sys2Proof.Machine

/-! The other statements on 40_entropy.md (section 4): the counts of `draw` and the orbit of `mix(0)`. The laws come
first, then the two obligations. -/

namespace Sys2Proof.Machine

/-! ### The pools that draw a result (40_entropy.md R107) -/

/-- A pool draws `k` exactly if it is congruent to `k - 1` modulo the face count. -/
theorem draw_eq_iff_modEq {n w k p : Nat} (hk : 1 ≤ k) (hkn : k ≤ n) (hp : p < 2 ^ w) :
    draw n (.of w p) = k ↔ p ≡ k - 1 [MOD n] := by
  rw [draw, toNat_of, Nat.mod_eq_of_lt hp, Nat.ModEq, Nat.mod_eq_of_lt (show k - 1 < n by omega)]
  omega

theorem count_draw_eq {n w k : Nat} (hk : 1 ≤ k) (hkn : k ≤ n) :
    Nat.count (fun p => draw n (.of w p) = k) (2 ^ w) = 2 ^ w / n + if k ≤ 2 ^ w % n then 1 else 0 := by
  have hlast : k - 1 < 2 ^ w % n ↔ k ≤ 2 ^ w % n := by omega
  calc Nat.count (fun p => draw n (.of w p) = k) (2 ^ w)
      = Nat.count (· ≡ k - 1 [MOD n]) (2 ^ w) := by
        rw [Nat.count_eq_card_filter_range, Nat.count_eq_card_filter_range]
        exact congrArg _ (Finset.filter_congr fun p hp => draw_eq_iff_modEq hk hkn (Finset.mem_range.mp hp))
    _ = 2 ^ w / n + if k ≤ 2 ^ w % n then 1 else 0 := by
        rw [Nat.count_modEq_card (2 ^ w) (by omega), Nat.mod_eq_of_lt (show k - 1 < n by omega)]
        simp only [hlast]

/-! ### The orbit of `mix(0)` (40_entropy.md section 4) -/

section MixZero

variable {w : Nat}

theorem mixBits_false_zero (w : Nat) : mixBits false (0 : BitVec w) = 0 := by
  simp [mixBits]

theorem getLsbD_mixBits_false_top (hw : 0 < w) (p : BitVec w) :
    (mixBits false p).getLsbD (w - 1) = (p.getLsbD 0 ^^ p.getLsbD 3) := by
  rw [getLsbD_mixBits_top hw, Bool.false_xor]

/-- The image holds every bit but bit 0, and its top bit gives bit 0 back from bit 3. -/
theorem mixBits_false_injective (hw : 4 ≤ w) : Function.Injective (mixBits false : BitVec w → BitVec w) := by
  intro p q h
  have hhigh : ∀ k, k + 1 < w → p.getLsbD (k + 1) = q.getLsbD (k + 1) := fun k hk => by
    rw [← getLsbD_mixBits_of_lt hk false p, h, getLsbD_mixBits_of_lt hk]
  have hlow : p.getLsbD 0 = q.getLsbD 0 := by
    have htop : (p.getLsbD 0 ^^ p.getLsbD 3) = (q.getLsbD 0 ^^ q.getLsbD 3) := by
      rw [← getLsbD_mixBits_false_top (by omega) p, h, getLsbD_mixBits_false_top (by omega)]
    rwa [hhigh 2 (by omega), Bool.xor_left_inj] at htop
  refine BitVec.eq_of_getLsbD_eq fun k hk => ?_
  cases k with
  | zero => exact hlow
  | succ k => exact hhigh k hk

/-- In a fixed point all bits are equal, and the top one is the sum of two of them. -/
theorem eq_zero_of_mixBits_false_eq_self (hw : 4 ≤ w) {p : BitVec w} (h : mixBits false p = p) : p = 0 := by
  have hall : ∀ k, k < w → p.getLsbD k = p.getLsbD 0 := fun k hk => by
    induction k with
    | zero => rfl
    | succ k ih => rw [← getLsbD_mixBits_of_lt hk false p, h, ih (by omega)]
  have hlow : p.getLsbD 0 = false := by
    rw [← hall (w - 1) (by omega), ← h, getLsbD_mixBits_false_top (by omega), hall 3 (by omega), Bool.xor_self]
  exact BitVec.eq_of_getLsbD_eq fun k hk => by rw [hall k hk, hlow, BitVec.ofNat_eq_ofNat, BitVec.getLsbD_zero]

/-- What comes out at bit 0 after `k` mixes is bit `k`, until the feedback gets there. -/
theorem getLsbD_zero_iterate_mixBits {k : Nat} (hk : k < w) (b : Bool) (p : BitVec w) :
    ((mixBits b)^[k] p).getLsbD 0 = p.getLsbD k := by
  induction k generalizing p with
  | zero => rfl
  | succ k ih => rw [Function.iterate_succ_apply, ih (by omega), getLsbD_mixBits_of_lt hk]

/-- The feedback bit of one mix comes out at bit 0 after `w` of them. -/
theorem getLsbD_zero_iterate_mixBits_false_width (hw : 4 ≤ w) (p : BitVec w) :
    ((mixBits false)^[w] p).getLsbD 0 = (p.getLsbD 0 ^^ ((mixBits false)^[3] p).getLsbD 0) := by
  have hstep : (mixBits false)^[w] p = (mixBits false)^[w - 1] (mixBits false p) := by
    rw [← Function.iterate_succ_apply, Nat.succ_eq_add_one, Nat.sub_add_cancel (by omega)]
  rw [hstep, getLsbD_zero_iterate_mixBits (by omega), getLsbD_mixBits_false_top (by omega),
    getLsbD_zero_iterate_mixBits (by omega)]

end MixZero

/-! ### The obligations -/

/-- Settles O16: the pools that draw a result are one residue class, counted at every pool width. -/
theorem drawCountsPerResult : Obligations.DrawCountsPerResult :=
  fun _ _ hk hkn => count_draw_eq hk hkn

/-- Settles O17: an injection of a finite type is a bijection, and an iterate from a nonzero pool is no iterate from the
fixed point 0. -/
theorem mixZeroIsABijection : Obligations.MixZeroIsABijection := by
  intro w hw
  have hinj := mixBits_false_injective (show 4 ≤ w by omega)
  refine ⟨Finite.injective_iff_bijective.mp hinj,
    fun p => ⟨eq_zero_of_mixBits_false_eq_self (by omega), fun h => h ▸ mixBits_false_zero w⟩,
    fun n p hp h => hp (hinj.iterate n ?never), fun n p => ?recurrence⟩
  case never => rw [h, Function.iterate_fixed (mixBits_false_zero w)]
  case recurrence =>
    rw [Nat.add_comm n w, Nat.add_comm n 3, Function.iterate_add_apply, Function.iterate_add_apply]
    exact getLsbD_zero_iterate_mixBits_false_width (by omega) _

end Sys2Proof.Machine

/-! The other statements on the display (41_display.md, 70_reset_and_hazards.md R240) and the buttons (42_input.md
R151, R157; 60_exceptions.md R209), and how far the entropy registers reach (10_state.md R43). The laws come first,
then the seven obligations, with the default segment table (41_display.md R132) among them. -/

namespace Sys2Proof.Machine

/-! ### The digits a refresh enables (41_display.md R130) -/

section Refresh

variable {s : State}

theorem getDigit_refTick_driven (hrun : s.refRun = true) :
    getDigit (refTick s).digOn s.activeDigit = (litPattern s).isSome := by
  simp [refTick_digOn, hrun]

theorem getDigit_refTick_other (hrun : s.refRun = true) : getDigit (refTick s).digOn s.activeDigit.other = false := by
  simp [refTick_digOn, hrun]

theorem getDigit_both (d : Digit) : getDigit 0b11 d = true := by cases d <;> rfl

/-- A refresh writes nothing of what the next one reads but the phase. -/
theorem refTick_keeps_shown (s : State) :
    (refTick s).curValue = s.curValue ∧ (refTick s).showMask = s.showMask ∧ (refTick s).refRun = s.refRun ∧
      (refTick s).params = s.params := by
  rcases refTick_cases s with ⟨-, e⟩ | ⟨-, e⟩ <;> simp [e]

/-- A refresh with both digits shown lights the driven one alone, with its pattern. -/
theorem refTick_of_both_shown (hrun : s.refRun = true) (hmask : s.showMask = 0b11) (hvalue : s.curValue.toNat ≤ 99) :
    getDigit (refTick s).digOn s.activeDigit = true ∧ getDigit (refTick s).digOn s.activeDigit.other = false ∧
      some (refTick s).segN = segPattern s.params (digitValue s.curValue s.activeDigit) := by
  have hshown : getDigit s.showMask s.activeDigit = true := by rw [hmask, getDigit_both]
  have hlit := litPattern_eq s hshown (digitValue_le_nine hvalue s.activeDigit)
  refine ⟨by rw [getDigit_refTick_driven hrun, hlit, Option.isSome_some], getDigit_refTick_other hrun, ?_⟩
  rw [← litPattern_of_shown hshown, refTick_segN, if_pos hrun, hlit, Option.getD_some]

theorem digOn_refSegments (s : State) : (refSegments s).digOn = s.digOn := rfl

theorem digOn_refFlip (s : State) : (refFlip s).digOn = s.digOn := rfl

/-- The first phase leaves every digit off if the driven one is off (70_reset_and_hazards.md R240). -/
theorem digOn_refBlank (hoff : s.DrivenDigitOff) : (refBlank s).digOn = 0b00 := by
  refine digitSet_ext _ _ s.activeDigit ?_ ?_
  · rw [getDigit_zero]
    exact (getDigit_setDigit_of_other s.digOn s.activeDigit false).trans hoff
  · rw [getDigit_zero]
    exact getDigit_setDigit_same s.digOn s.activeDigit.other false

end Refresh

/-! ### Edges before a service (42_input.md R150, 60_exceptions.md R209) -/

/-- SET_BTNs write the pending flag and leave the lines at the last mask. -/
theorem afterAll_btn_eq (ms : List Lines) (s : State) :
    afterAll (ms.map .btn) s =
      (s.setPending (afterAll (ms.map .btn) s).btnPending).setLines (ms.getLastD s.btnLines) := by
  induction ms generalizing s with
  | nil => rfl
  | cons m ms ih =>
    have hcons : afterAll ((m :: ms).map .btn) s = afterAll (ms.map .btn) (setBtn m s) := rfl
    rw [hcons, List.getLastD_cons]
    exact ih (setBtn m s)

/-- The flag is set after SET_BTNs exactly if it was, or some mask differs from the lines while detection is armed: the
first that does is an edge. -/
theorem btnPending_afterAll_btn (ms : List Lines) (s : State) :
    (afterAll (ms.map .btn) s).btnPending = true ↔
      (s.btnArmed = true ∧ ∃ m ∈ ms, m ≠ s.btnLines) ∨ s.btnPending = true := by
  induction ms generalizing s with
  | nil => simp [afterAll]
  | cons m ms ih =>
    have hcons : afterAll ((m :: ms).map .btn) s = afterAll (ms.map .btn) (after (.btn m) s) := rfl
    have harmed : (after (.btn m) s).btnArmed = s.btnArmed := rfl
    have hlines : (after (.btn m) s).btnLines = m := rfl
    rw [hcons, ih, btnPending_after_btn, harmed, hlines, List.exists_mem_cons_iff]
    by_cases hm : m = s.btnLines
    · simp [hm]
    · cases s.btnArmed <;> simp [hm]

/-! ### Detection between a roll and expiry (42_input.md R157) -/

/-- Expiry and RESET arm detection; a roll disarms it, and nothing else writes it. -/
theorem btnArmed_after_iff {i : Instr} {s : State} (h : s.btnArmed = false) :
    (after i s).btnArmed = true ↔ expires i s ∨ i = .rst := by
  refine ⟨fun harmed => ?_, fun hstop => (atRest_after_of_stops hstop).armed⟩
  by_contra hstop
  obtain ⟨hexp, hrst⟩ := not_or.mp hstop
  by_cases hroll : rolls i s
  · simp [(onShow_after_of_rolls hroll).disarmed] at harmed
  · obtain ⟨-, hkeep, -⟩ := power_after_of_no_event hroll hexp hrst
    simp [hkeep, h] at harmed

/-! ### A press (30_encoding.md R79) -/

/-- The mask of `press k` asserts line `k` alone. -/
theorem lowestPressed_press (k : Fin 6) : lowestPressed (1#6 <<< k.val) = some k := by
  revert k; decide

/-- A press that is an edge sets the flag and the lines, and its service rolls the button's die. -/
theorem afterAll_press {s : State} {k : Fin 6} (h : edgeDetected s.btnArmed s.btnLines (1#6 <<< k.val) = true) :
    afterAll (press k) s =
      roll k ((((s.setPending true).setLines (1#6 <<< k.val)).setArmed false).setPending false) := by
  have hfold : afterAll (press k) s = service (setBtn (1#6 <<< k.val) s) := rfl
  rw [hfold, setBtn_of_edge h]
  exact service_of_scan rfl (lowestPressed_press k)

/-! ### What the entropy registers reach (10_state.md R43) -/

/-- The state with other contents in the entropy registers. -/
def State.withEntropy (v b : Bool) (p : Sized) (s : State) : State := { s with entValid := v, entBit := b, pool := p }

/-- ENT_TICK writes the entropy registers alone, so what it reads goes no further (40_entropy.md R104). -/
theorem entTick_withEntropy (smp x v b : Bool) (p : Sized) (s : State) :
    ∃ v' b' p', entTick smp x (s.withEntropy v b p) = (entTick smp x s).withEntropy v' b' p' :=
  ⟨_, _, _, (entTick_eq_update smp x (s.withEntropy v b p)).trans
    (congrArg (State.withEntropy _ _ _) (entTick_eq_update smp x s)).symm⟩

theorem refTick_withEntropy (v b : Bool) (p : Sized) (s : State) :
    refTick (s.withEntropy v b p) = (refTick s).withEntropy v b p := by
  cases hrun : s.refRun with
  | false =>
    rw [refTick_of_stopped hrun]
    exact refTick_of_stopped hrun
  | true =>
    rw [refTick_of_running hrun]
    exact refTick_of_running (s := s.withEntropy v b p) hrun

theorem toTick_withEntropy (v b : Bool) (p : Sized) (s : State) :
    toTick (s.withEntropy v b p) = (toTick s).withEntropy v b p := by
  by_cases hexp : expires .tot s
  · rw [toTick_of_expires hexp]
    exact toTick_of_expires (s := s.withEntropy v b p) hexp
  · rw [toTick_of_not_expires hexp]
    exact toTick_of_not_expires (s := s.withEntropy v b p) hexp

/-- A roll reads the pool in the draw alone (42_input.md R151). -/
theorem roll_withEntropy {v b : Bool} {p : Sized} {s : State} {k : Fin 6}
    (hdraw : draw (buttonFaces s.params k) p = draw (buttonFaces s.params k) s.pool) :
    roll k (s.withEntropy v b p) = (roll k s).withEntropy v b p := by
  rw [roll_eq, roll_eq]
  simp only [State.withEntropy, hdraw]

theorem service_withEntropy {v b : Bool} {p : Sized} {s : State}
    (hdraw : rolls .svc s → ∀ k, lowestPressed s.btnLines = some k →
      draw (buttonFaces s.params k) p = draw (buttonFaces s.params k) s.pool) :
    service (s.withEntropy v b p) = (service s).withEntropy v b p := by
  by_cases hroll : rolls .svc s
  · obtain ⟨hp, k, hk⟩ := (rolls_svc_iff s).mp hroll
    rw [service_of_scan hp hk, ← roll_withEntropy (s := (s.setArmed false).setPending false) (hdraw hroll k hk)]
    exact service_of_scan (s := s.withEntropy v b p) hp hk
  · rw [service_of_not_rolls hroll]
    exact service_of_not_rolls (s := s.withEntropy v b p) hroll

/-- Other contents of the entropy registers before a stimulus are other contents of them after it, and nothing else. -/
theorem after_withEntropy (i : Instr) {s : State} (v b : Bool) {p : Sized}
    (hdraw : rolls i s → ∀ k, lowestPressed s.btnLines = some k →
      draw (buttonFaces s.params k) p = draw (buttonFaces s.params k) s.pool) :
    ∃ v' b' p', after i (s.withEntropy v b p) = (after i s).withEntropy v' b' p' := by
  cases i with
  | ent smp x => exact entTick_withEntropy smp x v b p s
  | ref => exact ⟨v, b, p, refTick_withEntropy v b p s⟩
  | tot => exact ⟨v, b, p, toTick_withEntropy v b p s⟩
  | svc => exact ⟨v, b, p, service_withEntropy hdraw⟩
  | btn m => exact ⟨v, b, p, rfl⟩
  | rst => exact ⟨false, false, s.params.seed, rfl⟩

/-! ### The obligations -/

/-- Settles O20: the ten default patterns, and `BLANK` compared with each of them. -/
theorem defaultSegmentTable : Obligations.DefaultSegmentTable :=
  ⟨rfl, rfl, by decide⟩

/-- Settles O25: the second refresh finds the other digit named, and the shown pair as the first one found it. -/
theorem frameShowsBothDigits : Obligations.FrameShowsBothDigits := by
  intro s hrun hmask hvalue
  have hactive : (refTick s).activeDigit = s.activeDigit.other := by rw [refTick_activeDigit, if_pos hrun]
  obtain ⟨hvalue', hmask', hrun', hparams⟩ := refTick_keeps_shown s
  rw [hrun] at hrun'
  obtain ⟨hon, hoff, hseg⟩ := refTick_of_both_shown hrun hmask hvalue
  obtain ⟨hon', hoff', hseg'⟩ := refTick_of_both_shown hrun' (hmask'.trans hmask) (hvalue'.symm ▸ hvalue)
  rw [hactive] at hon' hoff' hseg'
  rw [other_other] at hoff'
  rw [hparams, hvalue'] at hseg'
  have hphase : (refTick (refTick s)).activeDigit = s.activeDigit := by
    rw [refTick_activeDigit, if_pos hrun', hactive, other_other]
  exact ⟨_, _, rfl, rfl, runScript_eq frame s, hphase, hon, hoff, hoff', hon', hseg, hseg'⟩

/-- Settles O26: every digit is off while the lines change, and only the driven one is enabled after. -/
theorem refreshPhasesDoNotGhost : Obligations.RefreshPhasesDoNotGhost := by
  intro s hoff hrun
  have hne : ¬s.refRun = false := by simp [hrun]
  have htick : refTick s = refFlip (refEnable (refSegments (refBlank s))) := if_neg hne
  have hphases : refPhases s = [refBlank s, refSegments (refBlank s), refEnable (refSegments (refBlank s)),
      refFlip (refEnable (refSegments (refBlank s)))] := if_neg hne
  have hdark := digOn_refBlank hoff
  have hfirst : (refBlank s).Inv4 := atMostOneDigit_of_off (d := .ones) (by rw [hdark, getDigit_zero])
  have hlast := inv4_refTick_of_running hrun
  rw [htick, State.Inv4, digOn_refFlip] at hlast
  refine ⟨?_, _, _, _, _, hphases, hdark, rfl, hdark, rfl, rfl, rfl, congrArg _ htick⟩
  simp only [hphases, List.forall_mem_cons, State.Inv4, digOn_refSegments, digOn_refFlip]
  exact ⟨hfirst, hfirst, hlast, hlast, List.forall_mem_nil _⟩

/-- Settles O34, from the events that write `btn_armed`; an edge needs it set. -/
theorem debounceHoldsUntilExpiry : Obligations.DebounceHoldsUntilExpiry := by
  intro i s t hdisarmed ht
  obtain rfl := eq_after_of_exec ht
  refine ⟨btnArmed_after_iff hdisarmed, fun hclear => ?_⟩
  by_contra hset
  obtain ⟨hedge, -⟩ := pendingFlagIsSetByArmedEdgesOnly i s _ ht
  obtain ⟨m, -, harmed, -⟩ := hedge hclear (Bool.eq_true_of_not_eq_false hset)
  simp [hdisarmed] at harmed

/-- Settles O35: in `IDLE` detection is armed, so the press is an edge, and its service rolls. -/
theorem pressRollsTheDie : Obligations.PressRollsTheDie := by
  intro s k hinv hidle hlines
  obtain ⟨hwf, -, -, ⟨harmed, -⟩, hdark, -⟩ := hinv
  have hedge := (edgeDetected_iff _ _ _).mpr ⟨harmed.mp hidle, hlines.symm⟩
  refine ⟨_, runScript_eq (press k) s, ?_⟩
  rw [afterAll_press hedge, roll_eq]
  exact ⟨rfl, toNat_shown_draw s.params k s.pool, rfl, toNat_ticks hwf, rfl, rfl, hdark hidle⟩

/-- Settles O36, by induction on the masks (`afterAll_btn_eq`, `btnPending_afterAll_btn`). -/
theorem gatedStimuliAndCoalescedEdges : Obligations.GatedStimuliAndCoalescedEdges := by
  refine ⟨fun s => ⟨fun h => congrArg _ (refTick_of_stopped h), fun h => congrArg _ (toTick_of_stopped h),
    fun h => congrArg _ (service_of_no_edge h)⟩, fun s ms => ?_⟩
  have hpending := btnPending_afterAll_btn ms s
  refine ⟨_, service { afterAll (ms.map .btn) s with script := [] }, runScript_eq (ms.map .btn) s, ?lines,
    fun harmed hm => hpending.mpr (.inl ⟨harmed, hm⟩), fun h => hpending.mpr (.inr h), fun hno => ?asBefore, rfl,
    service_btnPending _, congrArg Host.Outcome.next (service_of_no_edge (service_btnPending _))⟩
  case lines => exact congrArg (fun u : State => { u with script := [] }) (afterAll_btn_eq ms s)
  case asBefore =>
    have hedge : ¬(s.btnArmed = true ∧ ∃ m ∈ ms, m ≠ s.btnLines) := by
      rintro ⟨harmed, m, hm, hne⟩
      rcases hno with hdisarmed | hsame
      · simp [hdisarmed] at harmed
      · exact hne (hsame m hm)
    exact Bool.eq_iff_iff.mpr (hpending.trans (or_iff_right hedge))

/-- Settles O51, from what each stimulus does with other entropy registers; the scan names the rolled die. -/
theorem entropyReachesOutputsThroughDrawOnly : Obligations.EntropyReachesOutputsThroughDrawOnly := by
  intro i s t v b p ht hdraw
  obtain rfl := eq_after_of_exec ht
  obtain ⟨v', b', p', h⟩ := after_withEntropy i v b fun hroll k hk => by
    obtain ⟨hpressed, hlow⟩ := (lowestPressed_eq_some_iff _ k).mp hk
    exact hdraw hroll k hpressed hlow
  exact ⟨_, (exec_eq_after ..).trans (congrArg _ h), rfl, rfl⟩

end Sys2Proof.Machine
